-- ==== Sys2Proof/Word.lean ====
section
/-! DEFINITION. The word types of the block: bytes (field elements, memory cells), 32-bit registers, 20-bit bus
offsets (00_scope.md R5, R7). -/

namespace Sys2Proof

/-- A byte: a memory cell or an element of GF(256). -/
abbrev Byte := BitVec 8

/-- A register or command word: BUS_DATA_BITS = 32. -/
abbrev Word := BitVec 32

/-- A byte offset from the block's base address: BUS_ADDR_BITS = 20. -/
abbrev Offset := BitVec 20

/-- `zext_32` of R7. -/
def Word.ofByte (b : Byte) : Word := b.setWidth 32

end Sys2Proof
end

