-- ==== Sys2Proof/Machine/Errors.lean ====
section
/-! DEFINITION. The coded errors a command can raise, with their ERRCODE (60_exceptions.md R286) and ERRDETAIL (R287). -/

namespace Sys2Proof.Machine

/-- One constructor for every row of the table of R287, in its order. -/
inductive Err where
  | noSegment        -- FORMAT 1: terminator with no data segment produced
  | badMode          -- FORMAT 2: unsupported or invalid mode value
  | pastEnd          -- FORMAT 3: a field runs past the end of the input bits
  | numericRange     -- FORMAT 4: a numeric group out of range
  | alnumRange       -- FORMAT 5: an alphanumeric index of 45 or more
  | eciLead          -- FORMAT 6: an ECI lead byte 111xxxxx
  | zeroRemainder    -- CHECKSUM 1: zero leading remainder in Euclid
  | sigmaConstant    -- CHECKSUM 2: sigma's constant term is zero
  | rootCount        -- CHECKSUM 3: number of roots differs from deg(sigma)
  | negativePosition -- CHECKSUM 4: a correction position is negative
  | zeroElement      -- ARITHMETIC 1: inverse or logarithm of 0
  | notElement       -- ARITHMETIC 2: a field-element operand of 256 or more
  | zeroDivisor      -- ARITHMETIC 3: polynomial division by the zero polynomial
  | cwbufRange       -- ARGUMENT 1: CWBUF offset + length > 4096
  | rsLength         -- ARGUMENT 2: RS block length n not in 1..255, or twoS > n
  | version          -- ARGUMENT 3: version not in 1..40
  | polyCapacity     -- ARGUMENT 4: a polynomial result longer than 512 coefficients
  | sameDestination  -- ARGUMENT 5: two equal destination fields
  | operandRange     -- ARGUMENT 6: a degree, exponent, count, mode-value or window operand out of range
  | undefinedOpcode  -- ILLEGAL 1: undefined opcode
  | reservedBit      -- ILLEGAL 2: a reserved bit of the command word set
  deriving DecidableEq, Repr

/-- STATUS.ERRCODE of an error (R286). -/
def Err.code : Err → BitVec 4
  | .noSegment | .badMode | .pastEnd | .numericRange | .alnumRange | .eciLead => 1#4
  | .zeroRemainder | .sigmaConstant | .rootCount | .negativePosition => 2#4
  | .zeroElement | .notElement | .zeroDivisor => 3#4
  | .cwbufRange | .rsLength | .version | .polyCapacity | .sameDestination | .operandRange => 4#4
  | .undefinedOpcode | .reservedBit => 5#4

/-- STATUS.ERRDETAIL of an error (R287). -/
def Err.detail : Err → BitVec 4
  | .noSegment | .zeroRemainder | .zeroElement | .cwbufRange | .undefinedOpcode => 1#4
  | .badMode | .sigmaConstant | .notElement | .rsLength | .reservedBit => 2#4
  | .pastEnd | .rootCount | .zeroDivisor | .version => 3#4
  | .numericRange | .negativePosition | .polyCapacity => 4#4
  | .alnumRange | .sameDestination => 5#4
  | .eciLead | .operandRange => 6#4

end Sys2Proof.Machine
end

