-- ==== Sys2Proof/Config.lean ====
section
/-! DEFINITION. What the implementation fixes (00_scope.md R5) and the values the spec leaves free. -/

namespace Sys2Proof

/-- The two readings of "terminating when remainder degree < twoS/2" (R187). -/
inductive EuclidStop where
  | rational
  | floor
  deriving DecidableEq, Repr

/-- `GEN_BASE`: the exponent of the first syndrome point (R5, R6, R183). -/
def Config.genBase : Nat := 0

/-- `EUCLID_STOP`: this hardware takes RATIONAL (R187). -/
def Config.euclidStop : EuclidStop := .rational

/-- `POLY_CAP`: the most coefficients a polynomial register holds (R24, R146). -/
def Config.polyCap : Nat := 512

/-- `CWBUF_SIZE` (R5, R61). -/
def Config.cwbufSize : Nat := 4096

/-- `RS_NMAX`, the longest RS block (R5, R181). -/
def Config.rsNmax : Nat := 255

/-- `VMIN` (R5). -/
def Config.versionMin : Nat := 1

/-- `VMAX` (R5). -/
def Config.versionMax : Nat := 40

/-- The constant of the ID register, "QRF1" (R33). -/
def Config.id : Word := 0x51524631#32

/-- FREE VALUE (R42, R322; log 5): the byte the memory at a bus offset holds after the given reset, until it is
written. -/
opaque Config.resetByte (epoch addr : Nat) : Byte

/-- FREE VALUE (R333; log 4): what the n-th draw gives a host that reads a result while BUSY. -/
opaque Config.readDraw (n : Nat) : Word

/-- FREE VALUE (R336; log 3): how many host accesses at most the n-th draw lets see BUSY = 1 after an issue. -/
opaque Config.busyAccesses (n : Nat) : Nat

end Sys2Proof
end

