-- ==== Sys2Proof/Machine/State.lean ====
section
/-! DEFINITION. The state of the machine as plain data (10_state.md R21 to R43) and its value after reset (R42). -/

namespace Sys2Proof.Machine

/-- SEQ, the sequencer's one state variable (R22). STATUS.BUSY is 1 exactly while it is `busy` (R31). -/
inductive Seq where
  | idle
  | busy
  deriving DecidableEq, Repr

/-- A coefficient list, highest degree first (R8, R24). -/
abbrev Poly := List Byte

/-- What the segment decoder holds during SEG.DECODE (R38, R222 to R225): the bit cursor, the number of output bytes,
the number of records, and the ECI designator in force. -/
structure SegRun where
  pos : Nat
  nout : Nat
  nseg : Nat
  eci : Option (BitVec 21)
  deriving DecidableEq, Repr

/-- Every SEG.DECODE starts here (R226, R231). -/
def SegRun.start : SegRun := { pos := 0, nout := 0, nseg := 0, eci := none }

/-- The width of a host access (R63). -/
inductive Width where
  | w8
  | w16
  | w32
  deriving DecidableEq, Repr

/-- What the world outside the block does to it (log 2): a read or a write of the register interface (R61 to R66), the
host's WAIT (R97, R275; log 15), a change of the RST input to a level (R321; log 6), or a turn left to the sequencer, so
that what comes next can land at any time (R321; log 6). -/
inductive HostOp where
  | read (width : Width) (off : Offset)
  | write (width : Width) (off : Offset) (data : Word)
  | wait
  | rst (asserted : Bool)
  | pass
  deriving DecidableEq, Repr

/-- The block's answer to one access (R65). A narrow read stands in the low bits of `data`; a write answers 0. -/
structure HostReply where
  busError : Bool
  data : Word
  deriving DecidableEq, Repr

/-- The state of the block, and below it the model's own fields. -/
structure State where
  /-- SEQ (R22) and with it STATUS.BUSY -/
  seq : Seq
  /-- STATUS.DONE (R31) -/
  done : Bool
  /-- STATUS.ERR (R31) -/
  err : Bool
  /-- STATUS.OVR (R31) -/
  ovr : Bool
  /-- STATUS.ERRCODE (R31, R286) -/
  errCode : BitVec 4
  /-- STATUS.ERRDETAIL (R31, R287) -/
  errDetail : BitVec 4
  /-- CTRL.IE (R32) -/
  ie : Bool
  /-- CUR_CMD (R36) -/
  curCmd : Word
  /-- CUR_ARG[0] (R36) -/
  curArg0 : Word
  /-- CUR_ARG[1] (R36) -/
  curArg1 : Word
  /-- CUR_ARG[2] (R36) -/
  curArg2 : Word
  /-- ARG0 (R34) -/
  arg0 : Word
  /-- ARG1 (R34) -/
  arg1 : Word
  /-- ARG2 (R34) -/
  arg2 : Word
  /-- RES0 (R35) -/
  res0 : Word
  /-- RES1 (R35) -/
  res1 : Word
  /-- ERRCNT (R27) -/
  errCnt : Byte
  /-- ERRLOC[0..254] (R27) -/
  errLoc : Vector Byte 255
  /-- ERRMAG[0..254] (R27) -/
  errMag : Vector Byte 255
  /-- PR0..PR7 (R23, R24) -/
  pr : Vector Poly 8
  /-- CWBUF, OUTBUF and SEGTAB (R37, R61): the bytes written since the last reset, by bus offset (log 5, log 20) -/
  mem : List Host.Cell
  /-- SEG.DECODE is past its operand checks and not finished (R38) -/
  segActive : Bool
  /-- the segment decoder's values (R38) -/
  seg : SegRun
  /-- the RST input is asserted (R321) -/
  rst : Bool
  /-- model's own: resets so far (RST from released to asserted), so that each draws the memories anew (R322; log 5, log 6) -/
  epoch : Nat
  /-- model's own: draws taken so far, so that each is fresh (R333; log 4) -/
  draws : Nat
  /-- model's own: host accesses this command still lets in before the sequencer moves (R336; log 3) -/
  busyLeft : Nat
  /-- model's own: what the host will do next, in order (R75; log 2) -/
  hostQueue : List HostOp
  /-- model's own: the answer to the last host access (log 2) -/
  reply : Option HostReply
  deriving DecidableEq, Repr

/-- No command, bus access or reset stops this machine: every command is total (R9), a bus error is an answer to the
host (R65, R303), and a coded error is a completion (R291). So no fault is ever raised (log 22). -/
inductive Fault where
  deriving DecidableEq, Repr

/-- Why a step can be refused. -/
inductive Refusal where
  /-- Raised only by an arm of `exec` for an instruction with no meaning yet (there is none). Safe: the run stops. -/
  | notModelled (mnemonic : String)
  deriving DecidableEq, Repr

/-- After reset (R42), RST released. `mem` lists nothing: every byte of CWBUF, OUTBUF and SEGTAB is its reset draw. The model's own
fields start at 0 or empty (log 24). -/
def State.reset : State :=
  { seq := .idle, done := false, err := false, ovr := false, errCode := 0#4, errDetail := 0#4, ie := false
    curCmd := 0#32, curArg0 := 0#32, curArg1 := 0#32, curArg2 := 0#32
    arg0 := 0#32, arg1 := 0#32, arg2 := 0#32, res0 := 0#32, res1 := 0#32
    errCnt := 0#8, errLoc := Vector.replicate 255 0#8, errMag := Vector.replicate 255 0#8
    pr := Vector.replicate 8 [0#8]
    mem := [], segActive := false, seg := SegRun.start, rst := false
    epoch := 0, draws := 0, busyLeft := 0, hostQueue := [], reply := none }

end Sys2Proof.Machine
end

