-- ==== Sys2Proof/Machine/Flags.lean ====
section
/-! DEFINITION. STATUS, CTRL and the interrupt output (10_state.md R30 to R41) and how a completion sets the flags
(60_exceptions.md R291). -/

namespace Sys2Proof.Machine

/-- STATUS as the host reads it (R31); the reserved bits read 0. -/
def State.statusWord (s : State) : Word :=
  BitVec.ofNat 32 ((if s.seq = .busy then 1 else 0) + (if s.done then 2 else 0) + (if s.err then 4 else 0)
    + (if s.ovr then 8 else 0) + s.errCode.toNat * 256 + s.errDetail.toNat * 4096)

/-- A host write of `w` to STATUS while IDLE: bits 1 and 3 clear DONE and OVR where they are 1 (R31, R294). -/
def State.clearStatus (s : State) (w : Word) : State :=
  { s with done := s.done && !w.getLsbD 1, ovr := s.ovr && !w.getLsbD 3 }

/-- CTRL as the host reads it (R32). -/
def State.ctrlWord (s : State) : Word := if s.ie then 1#32 else 0#32

/-- A host write of `w` to CTRL while IDLE (R32). -/
def State.setCtrl (s : State) (w : Word) : State := { s with ie := w.getLsbD 0 }

/-- The interrupt output, a level (R40, R290). -/
def State.irq (s : State) : Bool := s.done && s.ie

/-- The flags at an issue: DONE, ERR, ERRCODE and ERRDETAIL become 0, BUSY 1, OVR stays (R30). -/
def State.flagsIssued (s : State) : State :=
  { s with seq := .busy, done := false, err := false, errCode := 0#4, errDetail := 0#4 }

/-- The flags at a completion without error (R291). -/
def State.flagsDone (s : State) : State :=
  { s with seq := .idle, done := true, err := false, errCode := 0#4, errDetail := 0#4 }

/-- The flags at a completion with an error (R291). -/
def State.flagsError (s : State) (e : Err) : State :=
  { s with seq := .idle, done := true, err := true, errCode := e.code, errDetail := e.detail }

end Sys2Proof.Machine
end

