-- ==== Sys2Proof/Machine/Memory.lean ====
section
/-! DEFINITION. The byte memory as a list of (bus offset, byte) in one canonical form, and the windows of the address
map (20_memory.md R61). -/

namespace Sys2Proof.Machine

/-- The canonical form: addresses strictly rising. Every listed byte was written since the last reset, and an unlisted
one was not (log 5). -/
abbrev Memory.wf (m : List Host.Cell) : Prop := m.Pairwise fun x y => x.1 < y.1

/-- The byte written at an address since the last reset, if any. -/
def Memory.lookup : List Host.Cell → Nat → Option Byte
  | [], _ => none
  | (k, b) :: m, a => if a = k then some b else Memory.lookup m a

/-- A write keeps the list sorted and without repeats. -/
def Memory.store : List Host.Cell → Nat → Byte → List Host.Cell
  | [], a, v => [(a, v)]
  | (k, b) :: m, a, v =>
    if a < k then (a, v) :: (k, b) :: m
    else if a = k then (a, v) :: m
    else (k, b) :: Memory.store m a v

/-- ONE definition of what a byte reads as: the value last written, else its draw at the last reset (R42). -/
def State.readByte (s : State) (addr : Nat) : Byte :=
  (Memory.lookup s.mem addr).getD (Config.resetByte s.epoch addr)

/-- Write one byte. -/
def State.writeByte (s : State) (addr : Nat) (v : Byte) : State := { s with mem := Memory.store s.mem addr v }

/-- Write bytes at rising addresses. -/
def State.writeBytes (s : State) (addr : Nat) : List Byte → State
  | [] => s
  | v :: vs => (s.writeByte addr v).writeBytes (addr + 1) vs

/-- Read `n` bytes at rising addresses. -/
def State.readBytes (s : State) (addr : Nat) (n : Nat) : List Byte := (List.range n).map fun k => s.readByte (addr + k)

/-- The bus offset of byte `k` of CWBUF (R61). -/
def cwbufAddr (k : Nat) : Nat := 0x01000 + k

/-- The bus offset of byte `k` of OUTBUF (R61). -/
def outbufAddr (k : Nat) : Nat := 0x04000 + k

/-- The bus offset of SEGTAB entry `k` (R61, R246). -/
def segtabAddr (k : Nat) : Nat := 0x08000 + 16 * k

/-- The low byte first (R64, R70). -/
def littleEndian : (n : Nat) → (v : Nat) → List Byte
  | 0, _ => []
  | n + 1, v => BitVec.ofNat 8 v :: littleEndian n (v / 256)

/-- The number bytes stand for, the first lowest (R64). -/
def fromLittleEndian : List Byte → Nat
  | [] => 0
  | b :: bs => b.toNat + 256 * fromLittleEndian bs

end Sys2Proof.Machine
end

