-- ==== Sys2Proof/Syntax.lean ====
section
/-! DEFINITION. The instructions: the 29 commands of 30_encoding.md R93 with the register fields each one uses (R92),
and the 6 mode indicators of R99. Operands come from CUR_ARG, never from the word (R95). -/

namespace Sys2Proof

/-- A polynomial register number, PR0..PR7 (R23). -/
abbrev PReg := Fin 8

/-- One constructor for every row of spec/opcode_table.json. Fields stand in the order D, E, A, B of R97. -/
inductive Instr where
  -- control commands (44_control.md)
  | nop
  | clr
  -- GF(256) scalar commands (40_gf256.md)
  | gfAdd
  | gfMul
  | gfInv
  | gfExp
  | gfLog
  -- polynomial commands (41_poly.md)
  | polyLoad (d : PReg)
  | polyStore (a : PReg)
  | polyMono (d : PReg)
  | polyAdd (d a b : PReg)
  | polyMul (d a b : PReg)
  | polyScale (d a : PReg)
  | polyShift (d a : PReg)
  | polyDiv (d e a b : PReg)
  | polyEval (a : PReg)
  | polyDeg (a : PReg)
  | polyCoef (a : PReg)
  -- Reed-Solomon commands (42_reed_solomon.md)
  | rsSynd (d : PReg)
  | rsEuclid (d e a : PReg)
  | rsChien (a : PReg)
  | rsForney (a : PReg)
  | rsApply
  | rsDecode
  -- segment decoder commands (43_segment.md)
  | segDecode
  | segCcb
  | segAlnum
  | segKanji
  | segEci
  -- mode indicators of the bitstream (30_encoding.md R99)
  | modeTerminator
  | modeNumeric
  | modeAlphanumeric
  | modeByte
  | modeEci
  | modeKanji
  deriving DecidableEq, Repr

end Sys2Proof
end

