-- ==== Sys2Proof/Machine/Ops.lean ====
section
/-! DEFINITION. The named operations the meanings are written over: polynomial registers, CWBUF, the RS arrays, and the
two ways a command completes (60_exceptions.md R291). Raising an error is this block's taking of an exception; there is
no return from one (R295). -/

namespace Sys2Proof.Machine

/-- `PR[i]` (R8, R23). -/
def State.getPR (s : State) (i : PReg) : Poly := s.pr[i]

/-- `PR[i] <- p` (R8, R23). -/
def State.setPR (s : State) (i : PReg) (p : Poly) : State := { s with pr := s.pr.set i p }

/-- `MemRead(a, n)`: n bytes of CWBUF in address order (R8). -/
def State.cwRead (s : State) (a n : Nat) : List Byte := s.readBytes (cwbufAddr a) n

/-- `MemWrite(a, n, list)` (R8). -/
def State.cwWrite (s : State) (a : Nat) (bs : List Byte) : State := s.writeBytes (cwbufAddr a) bs

/-- `CWBUF[a] <- CWBUF[a] xor m` (R195). -/
def State.cwXor (s : State) (a : Nat) (m : Byte) : State :=
  s.writeByte (cwbufAddr a) (s.readByte (cwbufAddr a) ^^^ m)

/-- The corrections of R195, in list order. -/
def State.cwCorrect (s : State) (a : Nat) : List (Nat × Byte) → State
  | [] => s
  | (p, m) :: rest => (s.cwXor (a + p) m).cwCorrect a rest

/-- A list as the 255 entries of ERRLOC or ERRMAG, 0 past its end (R194, R198). -/
def rsArray (L : List Byte) : Vector Byte 255 := Vector.ofFn fun k => L.getD k.val 0#8

/-- `ERRLOC[0..ERRCNT-1]` (R196, R197). -/
def State.locations (s : State) : List Byte := s.errLoc.toList.take s.errCnt.toNat

/-- `ERRMAG[0..ERRCNT-1]` (R197). -/
def State.magnitudes (s : State) : List Byte := s.errMag.toList.take s.errCnt.toNat

/-- `RES0 <- n`, a number of at most 32 bits (R8). -/
def State.setRes0 (s : State) (n : Nat) : State := { s with res0 := BitVec.ofNat 32 n }

/-- `RES1 <- n` (R8). -/
def State.setRes1 (s : State) (n : Nat) : State := { s with res1 := BitVec.ofNat 32 n }

/-- None of the segment decoder's values survives its command (R38; log 19). -/
def State.dropSeg (s : State) : State := { s with segActive := false, seg := SegRun.start }

/-- Completion without error (R291). -/
def State.complete (s : State) : State := s.flagsDone.dropSeg

/-- TAKING AN ERROR, `raise Error(code, detail)` (R8, R291): STATUS reports it, the command ends, the block is IDLE, and
nothing else changes. -/
def State.raise (s : State) (e : Err) : State := (s.flagsError e).dropSeg

/-- How a command ends that computed into scratch first: with its results, or with its one error and the state it was
issued in (R9, R291). -/
def State.settle (s : State) : Except Err State → Host.Outcome State Fault Refusal
  | .ok t => .next t.complete
  | .error e => .next (s.raise e)

/-- Issue of the command word `w` (R30): the word and the operands are latched (R36) and the flags set. How many host
accesses will see BUSY is drawn here (R336; log 3). -/
def State.issue (s : State) (w : Word) : State :=
  { s.flagsIssued.dropSeg with
    curCmd := w, curArg0 := s.arg0, curArg1 := s.arg1, curArg2 := s.arg2
    busyLeft := Config.busyAccesses s.draws, draws := s.draws + 1 }

/-- RST is asserted (R321, R322; log 6): the values of R42 at once, whatever the block was doing, the memories drawn anew.
The host's own queue and the count of draws are not the block's. -/
def State.assertRst (s : State) : State :=
  { State.reset with rst := true, epoch := s.epoch + 1, draws := s.draws, hostQueue := s.hostQueue }

/-- The RST input takes a level (R321). Its change from released to asserted is a reset. A level it already has changes
nothing, so that an assertion while RST is asserted is no new reset and the memories keep their draws; and releasing it
changes nothing else: the model's choice (DESIGN CHOICE, log 6). -/
def State.setRst (s : State) (asserted : Bool) : State :=
  match s.rst, asserted with
  | false, true => s.assertRst
  | _, _ => { s with rst := asserted }

end Sys2Proof.Machine
end

