-- ==== Sys2Proof/Machine/Bus.lean ====
section
/-! DEFINITION. The host's side of the block: the address map (10_state.md R29), access rules (20_memory.md R63 to R66),
register reads and writes, what the host meets while BUSY (70_reset_and_hazards.md R331 to R333), the RST input (R321), and
whose turn a step is. -/

namespace Sys2Proof.Machine

/-- What an acceptable access reaches (R29). Windows name the index, memories the bus offset, of the first byte. -/
inductive Place where
  | cmd
  | status
  | ctrl
  | id
  | arg0
  | arg1
  | arg2
  | res0
  | res1
  | errCnt
  | errLoc (k : Nat)
  | errMag (k : Nat)
  | cwbuf (addr : Nat)
  | outbuf (addr : Nat)
  | segtab (addr : Nat)
  deriving DecidableEq, Repr

/-- The bytes an access carries (R63). -/
def Width.bytes : Width → Nat
  | .w8 => 1
  | .w16 => 2
  | .w32 => 4

/-- The register at a word offset (R29). -/
def registerAt (off : Nat) : Option Place :=
  match off with
  | 0x00 => some .cmd
  | 0x04 => some .status
  | 0x08 => some .ctrl
  | 0x0C => some .id
  | 0x10 => some .arg0
  | 0x14 => some .arg1
  | 0x18 => some .arg2
  | 0x1C => some .res0
  | 0x20 => some .res1
  | 0x24 => some .errCnt
  | _ => none

/-- All `n` bytes from `off` lie in the window `first..last`. -/
def within (first last off n : Nat) : Bool := first ≤ off && off + n ≤ last + 1

/-- What an access reaches, or `none` for a bus error: misaligned, a width the target does not take, or unmapped
(R63, R65, R66). -/
def place (w : Width) (off : Offset) : Option Place :=
  let a := off.toNat
  let n := w.bytes
  if a % n ≠ 0 then none
  else if within 0x00000 0x00027 a n then (if w = .w32 then registerAt a else none)
  else if within 0x00400 0x004FE a n then some (.errLoc (a - 0x00400))
  else if within 0x00500 0x005FE a n then some (.errMag (a - 0x00500))
  else if within 0x01000 0x01FFF a n then some (.cwbuf a)
  else if within 0x04000 0x06FFF a n then some (.outbuf a)
  else if within 0x08000 0x13FFF a n then some (.segtab a)
  else none

/-- `n` bytes of ERRLOC or ERRMAG from index `k`. -/
def windowBytes (v : Vector Byte 255) (k n : Nat) : List Byte := (v.toList.drop k).take n

/-- What a read returns while IDLE, and while BUSY where R333 gives the value itself. -/
def State.valueAt (s : State) (w : Width) : Place → Word
  | .cmd => s.curCmd
  | .status => s.statusWord
  | .ctrl => s.ctrlWord
  | .id => Config.id
  | .arg0 => s.arg0
  | .arg1 => s.arg1
  | .arg2 => s.arg2
  | .res0 => s.res0
  | .res1 => s.res1
  | .errCnt => Word.ofByte s.errCnt
  | .errLoc k => BitVec.ofNat 32 (fromLittleEndian (windowBytes s.errLoc k w.bytes))
  | .errMag k => BitVec.ofNat 32 (fromLittleEndian (windowBytes s.errMag k w.bytes))
  | .cwbuf a | .outbuf a | .segtab a => BitVec.ofNat 32 (fromLittleEndian (s.readBytes a w.bytes))

/-- What a draw `d` gives a read of each place while BUSY; `none` where the read returns the true value (R333). -/
def drawnAt (d : Word) (w : Width) : Place → Option Word
  | .cmd | .status | .ctrl | .id | .arg0 | .arg1 | .arg2 => none
  | .res0 | .res1 => some d
  | .errCnt => some (d &&& 0xFF#32)
  | .errLoc _ | .errMag _ | .cwbuf _ | .outbuf _ | .segtab _ => some (BitVec.ofNat 32 (d.toNat % 256 ^ w.bytes))

/-- The answer of an access with a bus error: data 0 (R65). -/
def busErrorReply : HostReply := { busError := true, data := 0#32 }

/-- The answer of a write without a bus error. -/
def writeReply : HostReply := { busError := false, data := 0#32 }

/-- A host read: it has no side effect on the block (R71); while BUSY a result is a fresh draw (R333). While RST is asserted
the block is IDLE at the values of R42, and the model reads R65 and R71 as holding of those (R321; DEDUCED, log 6). -/
def State.hostRead (s : State) (w : Width) (off : Offset) : State :=
  match place w off with
  | none => { s with reply := some busErrorReply }
  | some p =>
    match s.seq, drawnAt (Config.readDraw s.draws) w p with
    | .busy, some v => { s with reply := some { busError := false, data := v }, draws := s.draws + 1 }
    | _, _ => { s with reply := some { busError := false, data := s.valueAt w p } }

/-- The effect of a write to a place while IDLE and RST is released; a read-only place ignores it (R29 to R34, R64). -/
def State.writePlace (s : State) (w : Width) (data : Word) : Place → State
  | .cmd => s.issue data
  | .status => s.clearStatus data
  | .ctrl => s.setCtrl data
  | .arg0 => { s with arg0 := data }
  | .arg1 => { s with arg1 := data }
  | .arg2 => { s with arg2 := data }
  | .cwbuf a => s.writeBytes a (littleEndian w.bytes data.toNat)
  | .id | .res0 | .res1 | .errCnt | .errLoc _ | .errMag _ | .outbuf _ | .segtab _ => s

/-- The effect of a write to a place while BUSY: a CMD write sets OVR (R331), every other is dropped (R332). -/
def State.writePlaceBusy (s : State) : Place → State
  | .cmd => { s with ovr := true }
  | _ => s

/-- A host write (R30, R65, R331, R332). A misaligned or unmapped write, or one of a width its target does not take, gets a
bus error also where the target is read-only, and also while BUSY: the model's choice, R65 before R29 and R332 (log 7).
While RST is asserted the block's state is held, so an accepted write changes nothing (R321; log 6). -/
def State.hostWrite (s : State) (w : Width) (off : Offset) (data : Word) : State :=
  match place w off with
  | none => { s with reply := some busErrorReply }
  | some p =>
    match s.seq with
    | .idle => { (if s.rst then s else s.writePlace w data p) with reply := some writeReply }
    | .busy => { s.writePlaceBusy p with reply := some writeReply }

/-- WAIT: read STATUS, and stay first in the host's queue while the answer shows BUSY = 1 (R97; log 15). -/
def State.hostWait (s : State) (rest : List HostOp) : State :=
  { s with
    reply := some { busError := false, data := s.statusWord }
    hostQueue := if s.seq = .busy then .wait :: rest else rest }

/-- One access uses up one of those this command lets in before the sequencer moves (R336; log 3). -/
def State.countAccess (s : State) : State := { s with busyLeft := if s.seq = .busy then s.busyLeft - 1 else s.busyLeft }

/-- The host's next action is taken: the first of its queue, `rest` left over (R75). -/
def State.hostStep (s : State) (op : HostOp) (rest : List HostOp) : State :=
  let t := { s with hostQueue := rest }
  match op with
  | .read w off => t.countAccess.hostRead w off
  | .write w off data => t.countAccess.hostWrite w off data
  | .wait => t.countAccess.hostWait rest
  | .rst asserted => t.setRst asserted
  | .pass => t

/-- A bus access may be made: while IDLE always (R22), while BUSY as long as accesses are left (R336; log 3). -/
def State.hostMayMove (s : State) : Bool := s.seq = .idle || s.busyLeft ≠ 0

/-- Whose turn a step is, and the state it starts from or gives. -/
inductive Turn where
  | host (after : State)
  | sequencer (before : State)
  deriving DecidableEq, Repr

/-- RST changes whenever its turn in the queue has come, whatever the sequencer is doing (R321); an access waits until it
may be made; a turn passed, or an empty queue, is the sequencer's (log 6). -/
def State.turn (s : State) : Turn :=
  match s.hostQueue with
  | [] => .sequencer s
  | .pass :: rest => .sequencer { s with hostQueue := rest }
  | .rst asserted :: rest => .host (s.hostStep (.rst asserted) rest)
  | op :: rest => if s.hostMayMove then .host (s.hostStep op rest) else .sequencer s

end Sys2Proof.Machine
end

