-- ==== Sys2Proof/Machine/ControlExec.lean ====
section
/-! DEFINITION. The meanings of the control commands (44_control.md). -/

namespace Sys2Proof.Machine

/-- NOP (R271). -/
def execNop (s : State) : Host.Outcome State Fault Refusal := s.settle (.ok s)

/-- CLR (R272). -/
def execClr (s : State) : Host.Outcome State Fault Refusal :=
  s.settle (.ok { s with
    pr := Vector.replicate 8 [0#8], errCnt := 0#8, errLoc := Vector.replicate 255 0#8, errMag := Vector.replicate 255 0#8
    res0 := 0#32, res1 := 0#32 })

end Sys2Proof.Machine
end

