-- ==== Sys2Proof/Machine/Gf.lean ====
section
/-! DEFINITION. GF(256) arithmetic over the polynomial 0x11D with generator 2 (40_gf256.md R121 to R128). -/

namespace Sys2Proof.Machine

/-- EXP as printed at R121: one numeral a row of sixteen bytes, column +0 in its most significant byte. -/
def expRows : List Nat :=
  [ 0x01020408102040801D3A74E8CD871326,
    0x4C982D5AB475EAC98F03060C183060C0,
    0x9D274E9C254A94356AD4B577EEC19F23,
    0x468C050A142850A05DBA69D2B96FDEA1,
    0x5FBE61C2992F5EBC65CA890F1E3C78F0,
    0xFDE7D3BB6BD6B17FFEE1DFA35BB671E2,
    0xD9AF4386112244880D1A3468D0BD67CE,
    0x811F3E7CF8EDC7933B76ECC5973366CC,
    0x85172E5CB86DDAA94F9E214284152A54,
    0xA84D9A2952A455AA49923972E4D5B773,
    0xE6D1BF63C6913F7EFCE5D7B37BF6F1FF,
    0xE3DBAB4B963162C495376EDCA557AE41,
    0x82193264C88D070E1C3870E0DDA753A6,
    0x51A259B279F2F9EFC39B2B56AC458A09,
    0x122448903D7AF4F5F7F3FBEBCB8B0B16,
    0x2C58B07DFAE9CF831B366CD8AD478E01 ]

/-- LOG as printed at R122, in the same form. -/
def logRows : List Nat :=
  [ 0x0000011902321AC603DF33EE1B68C74B,
    0x0464E00E348DEF811CC169F8C8084C71,
    0x058A652FE1240F2135938EDAF0128245,
    0x1DB5C27D6A27F9B9C99A09784DE472A6,
    0x06BF8B6266DD30FDE29825B310912288,
    0x36D094CE8F96DBBDF1D2135C83384640,
    0x1E42B6A3C3487E6E6B3A2854FA85BA3D,
    0xCA5E9B9F0A15792B4ED4E5AC73F3A757,
    0x0770C0F78C80630D674ADEED31C5FE18,
    0xE3A5997726B8B47C114492D92320892E,
    0x373FD15B95BCCFCD908797B2DCFCBE61,
    0xF256D3AB142A5D9E843C3953476D41A2,
    0x1F2D43D8B77BA476C41749EC7F0C6FF6,
    0x6CA13B52299D55AAFB6086B1BBCC3E5A,
    0xCB595FB09CA9A0510BF516EB7A752CD7,
    0x4FAED5E9E6E7ADE874D6F4EAA85058AF ]

/-- Entry `i` of a table of sixteen rows of sixteen bytes. -/
def tableByte (rows : List Nat) (i : Nat) : Byte :=
  BitVec.ofNat 8 (rows.getD (i / 16) 0 / 256 ^ (15 - i % 16))

/-- `EXP[i]`, for i in 0..255 (R121, R127). -/
def gfExp (i : Nat) : Byte := tableByte expRows i

/-- `LOG[a]` as a number in 0..254, for a nonzero `a`; the entry of 0 reads 0 and no rule uses it (R122). -/
def logTable (a : Byte) : Nat := (tableByte logRows a.toNat).toNat

/-- `gf_add`, which is subtraction too (R124). -/
def gfAdd (a b : Byte) : Byte := a ^^^ b

/-- `gf_mul` (R125). -/
def gfMul (a b : Byte) : Byte :=
  if a = 0#8 ∨ b = 0#8 then 0#8 else gfExp ((logTable a + logTable b) % 255)

/-- `gf_inv` (R126). -/
def gfInv (a : Byte) : Except Err Byte :=
  if a = 0#8 then .error .zeroElement else .ok (gfExp (255 - logTable a))

/-- `gf_log` (R128). -/
def gfLog (a : Byte) : Except Err Nat :=
  if a = 0#8 then .error .zeroElement else .ok (logTable a)

end Sys2Proof.Machine
end

