-- ==== Sys2Proof/Machine/Operands.lean ====
section
/-! DEFINITION. The operand checks (30_encoding.md R95, 20_memory.md R62, 42_reed_solomon.md R181, 43_segment.md R221).
Each looks at the whole 32-bit operand. -/

namespace Sys2Proof.Machine

/-- A field element must be below 256, else ARITHMETIC 2 (R95, R123). -/
def fieldElement (w : Word) : Except Err Byte :=
  if w.toNat < 256 then .ok (w.setWidth 8) else .error .notElement

/-- A degree, exponent, mode value or window of at most `max`, else ARGUMENT 6 (R95). -/
def atMost (max : Nat) (w : Word) : Except Err Nat :=
  if w.toNat ≤ max then .ok w.toNat else .error .operandRange

/-- A byte count of POLY.LOAD: 1..512, else ARGUMENT 6 (R153). -/
def byteCount (w : Word) : Except Err Nat :=
  if 1 ≤ w.toNat ∧ w.toNat ≤ Config.polyCap then .ok w.toNat else .error .operandRange

/-- `a + n ≤ 4096` in mathematical integers, else ARGUMENT 1; answers the offset (R62). -/
def cwbufRange (w : Word) (n : Nat) : Except Err Nat :=
  if w.toNat + n ≤ Config.cwbufSize then .ok w.toNat else .error .cwbufRange

/-- An RS block length n in 1..255, else ARGUMENT 2 (R181). -/
def blockLength (w : Word) : Except Err Nat :=
  if 1 ≤ w.toNat ∧ w.toNat ≤ Config.rsNmax then .ok w.toNat else .error .rsLength

/-- The number of EC codewords, at most n, else ARGUMENT 2 (R181). -/
def ecCount (w : Word) (n : Nat) : Except Err Nat :=
  if w.toNat ≤ n then .ok w.toNat else .error .rsLength

/-- A QR version in 1..40, else ARGUMENT 3 (R221, R248). -/
def qrVersion (w : Word) : Except Err Nat :=
  if Config.versionMin ≤ w.toNat ∧ w.toNat ≤ Config.versionMax then .ok w.toNat else .error .version

/-- The two destinations must differ, else ARGUMENT 5 (R293). -/
def distinct (d e : Fin 8) : Except Err Unit := if d = e then .error .sameDestination else .ok ()

/-- A polynomial result must fit a register, else ARGUMENT 4 (R146). -/
def capacity (p : List Byte) : Except Err Unit :=
  if p.length ≤ Config.polyCap then .ok () else .error .polyCapacity

end Sys2Proof.Machine
end

