-- ==== Sys2Proof/Machine/GfExec.lean ====
section
/-! DEFINITION. The meanings of the GF(256) scalar commands (40_gf256.md section 3). -/

namespace Sys2Proof.Machine

/-- GF.ADD (R129). -/
def execGfAdd (s : State) : Host.Outcome State Fault Refusal :=
  s.settle do
    let a ← fieldElement s.curArg0
    let b ← fieldElement s.curArg1
    return s.setRes0 (gfAdd a b).toNat

/-- GF.MUL (R130). -/
def execGfMul (s : State) : Host.Outcome State Fault Refusal :=
  s.settle do
    let a ← fieldElement s.curArg0
    let b ← fieldElement s.curArg1
    return s.setRes0 (gfMul a b).toNat

/-- GF.INV (R131). -/
def execGfInv (s : State) : Host.Outcome State Fault Refusal :=
  s.settle do
    let a ← fieldElement s.curArg0
    let b ← gfInv a
    return s.setRes0 b.toNat

/-- GF.EXP (R132). -/
def execGfExp (s : State) : Host.Outcome State Fault Refusal :=
  s.settle do
    let i ← atMost 255 s.curArg0
    return s.setRes0 (gfExp i).toNat

/-- GF.LOG (R133). -/
def execGfLog (s : State) : Host.Outcome State Fault Refusal :=
  s.settle do
    let a ← fieldElement s.curArg0
    let i ← gfLog a
    return s.setRes0 i

end Sys2Proof.Machine
end

