-- ==== Sys2Proof/Machine/Segment.lean ====
section
/-! DEFINITION. The segment decoder (43_segment.md): bit reader, tables, characters, ECI designators and records. The
input is the L = CUR_ARG[1] bytes of CWBUF from CUR_ARG[0] (R221), which no step of SEG.DECODE changes. -/

namespace Sys2Proof.Machine

/-- The four modes that make a data segment (R230). -/
inductive SegMode where
  | numeric
  | alphanumeric
  | byte
  | kanji
  deriving DecidableEq, Repr

/-- The mode indicator's value (R99). -/
def SegMode.value : SegMode → Nat
  | .numeric => 1
  | .alphanumeric => 2
  | .byte => 4
  | .kanji => 8

/-- The data mode with an indicator value, if any (R233). -/
def SegMode.ofValue (m : Nat) : Option SegMode :=
  match m with
  | 1 => some .numeric
  | 2 => some .alphanumeric
  | 4 => some .byte
  | 8 => some .kanji
  | _ => none

/-- `ccb(mode, v)`: the width of the character-count field for versions 1–9, 10–26 and 27–40 (R233). -/
def ccb (m : SegMode) (v : Nat) : Nat :=
  let row := match m with
    | .numeric => (10, 12, 14)
    | .alphanumeric => (9, 11, 13)
    | .byte => (8, 16, 16)
    | .kanji => (8, 10, 12)
  if v ≤ 9 then row.1 else if v ≤ 26 then row.2.1 else row.2.2

/-- The 45-symbol table as ASCII codes (R238). -/
def alnumTable : List Byte :=
  [ 0x30#8, 0x31#8, 0x32#8, 0x33#8, 0x34#8, 0x35#8, 0x36#8, 0x37#8, 0x38#8, 0x39#8 ] ++
  [ 0x41#8, 0x42#8, 0x43#8, 0x44#8, 0x45#8, 0x46#8, 0x47#8, 0x48#8, 0x49#8, 0x4A#8, 0x4B#8, 0x4C#8, 0x4D#8 ] ++
  [ 0x4E#8, 0x4F#8, 0x50#8, 0x51#8, 0x52#8, 0x53#8, 0x54#8, 0x55#8, 0x56#8, 0x57#8, 0x58#8, 0x59#8, 0x5A#8 ] ++
  [ 0x20#8, 0x24#8, 0x25#8, 0x2A#8, 0x2B#8, 0x2D#8, 0x2E#8, 0x2F#8, 0x3A#8 ]

/-- `ALNUM[i]`; 45 and above is FORMAT 5 (R236, R238, R249). -/
def alnumCode (i : Nat) : Except Err Byte :=
  if i < 45 then .ok (alnumTable.getD i 0#8) else .error .alnumRange

/-- `kanji(v)`, the Shift-JIS code of a 13-bit value (R241). -/
def kanjiCode (v : Nat) : Nat :=
  let t := (v / 0xC0) <<< 8 ||| v % 0xC0
  if t < 0x1F00 then t + 0x8140 else t + 0xC140

/-- The lead byte of an ECI designator: the value bits it holds and how many bytes follow it (R242). -/
def eciLeadByte (f : Nat) : Except Err (Nat × Nat) :=
  if f &&& 0x80 = 0x00 then .ok (f &&& 0x7F, 0)
  else if f &&& 0xC0 = 0x80 then .ok (f &&& 0x3F, 1)
  else if f &&& 0xE0 = 0xC0 then .ok (f &&& 0x1F, 2)
  else .error .eciLead

/-- Stream bit `j`: bit `7 − (j mod 8)` of byte `j div 8` of the input (R69). -/
def State.streamBit (s : State) (j : Nat) : Bool :=
  (s.readByte (cwbufAddr (s.curArg0.toNat + j / 8))).getLsbD (7 - j % 8)

/-- The number whose binary digits are the `w` stream bits from `pos` on, most significant first (R69). -/
def State.streamField (s : State) (pos : Nat) : (w : Nat) → Nat
  | 0 => 0
  | w + 1 => 2 * s.streamField pos w + (s.streamBit (pos + w)).toNat

/-- The unread bits at cursor `pos` (R222). -/
def State.avail (s : State) (pos : Nat) : Nat := 8 * s.curArg1.toNat - pos

/-- `read(w)` at cursor `pos`: the value, or FORMAT 3 if it runs past the end (R223). -/
def State.readField (s : State) (pos w : Nat) : Except Err Nat :=
  if s.avail pos < w then .error .pastEnd else .ok (s.streamField pos w)

/-- What decoding characters gives: the bytes emitted (R224), and the cursor after the last one or the error that
stopped it. -/
structure Chars where
  out : List Byte
  last : Except Err Nat

/-- No character left: the cursor stands at `pos`. -/
def Chars.done (pos : Nat) : Chars := { out := [], last := .ok pos }

/-- One group, then the rest; an error keeps what was emitted before it (R245). -/
def Chars.after (group : Except Err (List Byte)) (rest : Chars) : Chars :=
  match group with
  | .error e => { out := [], last := .error e }
  | .ok bs => { out := bs ++ rest.out, last := rest.last }

/-- `digits(g, k)`: k decimal digits in ASCII, most significant first (R235). -/
def digits : (k g : Nat) → List Byte
  | 0, _ => []
  | k + 1, g => BitVec.ofNat 8 (0x30 + g / 10 ^ k % 10) :: digits k g

/-- A numeric group of `w` bits holding `k` digits; a value of `10^k` or more is FORMAT 4 (R234). -/
def State.numericGroup (s : State) (pos w k : Nat) : Except Err (List Byte) := do
  let g ← s.readField pos w
  if g < 10 ^ k then return digits k g else .error .numericRange

/-- The characters of a numeric segment (R234). -/
def State.numericChars (s : State) : (count pos : Nat) → Chars
  | 0, p => .done p
  | 1, p => .after (s.numericGroup p 4 1) (.done (p + 4))
  | 2, p => .after (s.numericGroup p 7 2) (.done (p + 7))
  | c + 3, p => .after (s.numericGroup p 10 3) (s.numericChars c (p + 10))

/-- An alphanumeric pair of 11 bits (R236, R237). -/
def State.alnumPair (s : State) (pos : Nat) : Except Err (List Byte) := do
  let g ← s.readField pos 11
  let hi ← alnumCode (g / 45)
  let lo ← alnumCode (g % 45)
  return [hi, lo]

/-- A single alphanumeric character of 6 bits (R236). -/
def State.alnumSingle (s : State) (pos : Nat) : Except Err (List Byte) := do
  let g ← s.readField pos 6
  let c ← alnumCode g
  return [c]

/-- The characters of an alphanumeric segment (R236). -/
def State.alnumChars (s : State) : (count pos : Nat) → Chars
  | 0, p => .done p
  | 1, p => .after (s.alnumSingle p) (.done (p + 6))
  | c + 2, p => .after (s.alnumPair p) (s.alnumChars c (p + 11))

/-- One raw byte (R239). -/
def State.rawByte (s : State) (pos : Nat) : Except Err (List Byte) := do
  let b ← s.readField pos 8
  return [BitVec.ofNat 8 b]

/-- The characters of a byte segment (R239). -/
def State.byteChars (s : State) : (count pos : Nat) → Chars
  | 0, p => .done p
  | c + 1, p => .after (s.rawByte p) (s.byteChars c (p + 8))

/-- One Kanji character, its high byte first (R240). -/
def State.kanjiPair (s : State) (pos : Nat) : Except Err (List Byte) := do
  let v ← s.readField pos 13
  return [BitVec.ofNat 8 (kanjiCode v >>> 8), BitVec.ofNat 8 (kanjiCode v &&& 0xFF)]

/-- The characters of a Kanji segment (R240). -/
def State.kanjiChars (s : State) : (count pos : Nat) → Chars
  | 0, p => .done p
  | c + 1, p => .after (s.kanjiPair p) (s.kanjiChars c (p + 13))

/-- An ECI designator at cursor `pos`: its value and the cursor after it (R242). -/
def State.eciDesignator (s : State) (pos : Nat) : Except Err (Nat × Nat) := do
  let f ← s.readField pos 8
  let (hi, k) ← eciLeadByte f
  if k = 0 then return (hi, pos + 8)
  else do
    let lo ← s.readField (pos + 8) (8 * k)
    return (hi <<< (8 * k) ||| lo, pos + 8 + 8 * k)

/-- The ECI value a record carries: the designator in force for a byte segment, none for the others (R243). -/
def recordEci (m : SegMode) (eci : Option (BitVec 21)) : Option (BitVec 21) := if m = .byte then eci else none

/-- The 16 bytes of a SEGTAB entry (R246). -/
def recordBytes (m : SegMode) (count : Nat) (eci : Option (BitVec 21)) (start length : Nat) : List Byte :=
  let tag := recordEci m eci
  littleEndian 1 m.value ++ littleEndian 1 tag.isSome.toNat ++ littleEndian 2 count
    ++ littleEndian 4 (tag.map BitVec.toNat |>.getD 0) ++ littleEndian 4 start ++ littleEndian 4 length

/-- An error of SEG.DECODE past its operand checks: RES0 and RES1 become 0 (R245). -/
def State.segFail (s : State) (e : Err) : State := { s with res0 := 0#32, res1 := 0#32 }.raise e

/-- `record(mode, count, start)` after `length` bytes of output, the cursor now at `pos` (R225, R230). -/
def State.segRecord (s : State) (m : SegMode) (count pos length : Nat) : State :=
  let entry := recordBytes m count s.seg.eci s.seg.nout length
  let t := s.writeBytes (segtabAddr s.seg.nseg) entry
  { t with seg := { s.seg with pos := pos, nout := s.seg.nout + length, nseg := s.seg.nseg + 1 } }

/-- The characters of a data segment in its mode (R230). -/
def State.segChars (s : State) (m : SegMode) (count pos : Nat) : Chars :=
  match m with
  | .numeric => s.numericChars count pos
  | .alphanumeric => s.alnumChars count pos
  | .byte => s.byteChars count pos
  | .kanji => s.kanjiChars count pos

/-- A whole data segment, its mode indicator at the cursor: count field, characters, record (R230). The bytes emitted
before an error stay in OUTBUF (R245). -/
def State.dataSegment (s : State) (m : SegMode) : State :=
  let p := s.seg.pos + 4
  let w := ccb m s.curArg2.toNat
  match s.readField p w with
  | .error e => s.segFail e
  | .ok count =>
    let c := s.segChars m count (p + w)
    let t := s.writeBytes (outbufAddr s.seg.nout) c.out
    match c.last with
    | .error e => t.segFail e
    | .ok pos => t.segRecord m count pos c.out.length

end Sys2Proof.Machine
end

