-- ==== Sys2Proof/Machine/ModeExec.lean ====
section
/-! DEFINITION. The meanings of the mode indicators (43_segment.md R226 to R243), each run with its indicator at the bit
cursor. -/

namespace Sys2Proof.Machine

/-- MODE.TERMINATOR, read or implicit (R227): SEG.DECODE completes, or fails if it produced no segment. -/
def execModeTerminator (s : State) : Host.Outcome State Fault Refusal :=
  if s.seg.nseg = 0 then .next (s.segFail .noSegment)
  else .next ((s.setRes0 s.seg.nseg).setRes1 s.seg.nout).complete

/-- MODE.NUMERIC (R230, R234). -/
def execModeNumeric (s : State) : Host.Outcome State Fault Refusal := .next (s.dataSegment .numeric)

/-- MODE.ALPHANUMERIC (R230, R236). -/
def execModeAlphanumeric (s : State) : Host.Outcome State Fault Refusal := .next (s.dataSegment .alphanumeric)

/-- MODE.BYTE (R230, R239). -/
def execModeByte (s : State) : Host.Outcome State Fault Refusal := .next (s.dataSegment .byte)

/-- MODE.KANJI (R230, R240). -/
def execModeKanji (s : State) : Host.Outcome State Fault Refusal := .next (s.dataSegment .kanji)

/-- MODE.ECI (R242): the designator is in force from here on; no record (R232). -/
def execModeEci (s : State) : Host.Outcome State Fault Refusal :=
  match s.eciDesignator (s.seg.pos + 4) with
  | .error e => .next (s.segFail e)
  | .ok (value, pos) => .next { s with seg := { s.seg with pos := pos, eci := some (BitVec.ofNat 21 value) } }

end Sys2Proof.Machine
end

