-- ==== Sys2Proof/Machine/Poly.lean ====
section
/-! DEFINITION. The polynomial functions of 41_poly.md section 1 (R141 to R152), on coefficient lists, highest degree
first. -/

namespace Sys2Proof.Machine

/-- `norm`: no leading zero coefficients; `[0]` when all are zero or there are none (R141). -/
def norm : List Byte → Poly
  | [] => [0#8]
  | [c] => [c]
  | c :: d :: cs => if c = 0#8 then norm (d :: cs) else c :: d :: cs

/-- `deg`; the zero polynomial has degree 0 (R142). -/
def deg (p : Poly) : Nat := p.length - 1

/-- `is_zero` (R143). -/
def isZero (p : Poly) : Bool := p = [0#8]

/-- `coef`, 0 beyond the degree (R144). -/
def coef (p : Poly) (d : Nat) : Byte := if d ≤ deg p then p.getD (p.length - 1 - d) 0#8 else 0#8

/-- `mono`, c·x^d (R145). -/
def mono (d : Nat) (c : Byte) : Poly := if c = 0#8 then [0#8] else c :: List.replicate d 0#8

/-- XOR of two lists with their last entries aligned, the shorter one's missing entries taken as 0 (the loop of
R147). -/
def xorAligned (a b : List Byte) : List Byte :=
  let s := if a.length < b.length then a else b
  let l := if a.length < b.length then b else a
  let off := l.length - s.length
  l.take off ++ List.zipWith gfAdd (l.drop off) s

/-- `padd`, addition and subtraction (R147). -/
def padd (a b : Poly) : Poly :=
  if isZero a then b else if isZero b then a else norm (xorAligned a b)

/-- The product's coefficients before normalization: entry `i + j` collects `gf_mul(a[i], b[j])` (the double loop of
R148). -/
def convolve : List Byte → List Byte → List Byte
  | [], b => List.replicate (b.length - 1) 0#8
  | c :: cs, b => xorAligned (b.map (gfMul c) ++ List.replicate cs.length 0#8) (convolve cs b)

/-- `pmul` (R148). -/
def pmul (a b : Poly) : Poly := if isZero a || isZero b then [0#8] else norm (convolve a b)

/-- `pscale` (R149). -/
def pscale (a : Poly) (s : Byte) : Poly :=
  if s = 0#8 then [0#8] else if s = 1#8 then a else norm (a.map fun c => gfMul c s)

/-- `pshift`, a·c·x^d (R150). -/
def pshift (a : Poly) (d : Nat) (c : Byte) : Poly :=
  if c = 0#8 then [0#8] else norm (a.map (fun x => gfMul x c) ++ List.replicate d 0#8)

/-- The loop of `pdiv` (R151), at most `fuel` passes; each pass shortens `r` (log 11). -/
def pdivLoop (b : Poly) (invLead : Byte) : (fuel : Nat) → (q r : Poly) → Poly × Poly
  | 0, q, r => (q, r)
  | fuel + 1, q, r =>
    if deg b ≤ deg r ∧ ¬ isZero r then
      let dd := deg r - deg b
      let scale := gfMul (coef r (deg r)) invLead
      pdivLoop b invLead fuel (padd q (mono dd scale)) (padd r (pshift b dd scale))
    else (q, r)

/-- `pdiv`, long division: quotient and remainder (R151). -/
def pdiv (a b : Poly) : Except Err (Poly × Poly) :=
  if isZero b then .error .zeroDivisor
  else do
    let invLead ← gfInv (coef b (deg b))
    return pdivLoop b invLead a.length [0#8] a

/-- `peval`, Horner's method for every x, as R152 allows (log 12). -/
def peval (p : Poly) (x : Byte) : Byte := p.foldl (fun v c => gfAdd (gfMul x v) c) 0#8

end Sys2Proof.Machine
end

