-- ==== Sys2Proof/Machine/PolyExec.lean ====
section
/-! DEFINITION. The meanings of the polynomial commands (41_poly.md section 2). Sources are read before a destination is
written (R26). -/

namespace Sys2Proof.Machine

/-- POLY.LOAD pd (R153). -/
def execPolyLoad (d : PReg) (s : State) : Host.Outcome State Fault Refusal :=
  s.settle do
    let k ← byteCount s.curArg1
    let a ← cwbufRange s.curArg0 k
    let p := norm (s.cwRead a k)
    return (s.setPR d p).setRes0 (deg p)

/-- POLY.STORE pa (R154). -/
def execPolyStore (a : PReg) (s : State) : Host.Outcome State Fault Refusal :=
  s.settle do
    let p := s.getPR a
    let off ← cwbufRange s.curArg0 p.length
    return (s.cwWrite off p).setRes0 p.length

/-- POLY.MONO pd (R155). -/
def execPolyMono (d : PReg) (s : State) : Host.Outcome State Fault Refusal :=
  s.settle do
    let n ← atMost 511 s.curArg0
    let c ← fieldElement s.curArg1
    return s.setPR d (mono n c)

/-- POLY.ADD pd, pa, pb (R156). -/
def execPolyAdd (d a b : PReg) (s : State) : Host.Outcome State Fault Refusal :=
  s.settle (.ok (s.setPR d (padd (s.getPR a) (s.getPR b))))

/-- POLY.MUL pd, pa, pb (R157). -/
def execPolyMul (d a b : PReg) (s : State) : Host.Outcome State Fault Refusal :=
  s.settle do
    let p := pmul (s.getPR a) (s.getPR b)
    capacity p
    return s.setPR d p

/-- POLY.SCALE pd, pa (R158). -/
def execPolyScale (d a : PReg) (s : State) : Host.Outcome State Fault Refusal :=
  s.settle do
    let k ← fieldElement s.curArg0
    return s.setPR d (pscale (s.getPR a) k)

/-- POLY.SHIFT pd, pa (R159). -/
def execPolyShift (d a : PReg) (s : State) : Host.Outcome State Fault Refusal :=
  s.settle do
    let n ← atMost 511 s.curArg0
    let c ← fieldElement s.curArg1
    let p := pshift (s.getPR a) n c
    capacity p
    return s.setPR d p

/-- POLY.DIV pd, pe, pa, pb (R160). -/
def execPolyDiv (d e a b : PReg) (s : State) : Host.Outcome State Fault Refusal :=
  s.settle do
    distinct d e
    let (q, r) ← pdiv (s.getPR a) (s.getPR b)
    return (s.setPR d q).setPR e r

/-- POLY.EVAL pa (R161). -/
def execPolyEval (a : PReg) (s : State) : Host.Outcome State Fault Refusal :=
  s.settle do
    let x ← fieldElement s.curArg0
    return s.setRes0 (peval (s.getPR a) x).toNat

/-- POLY.DEG pa (R162). -/
def execPolyDeg (a : PReg) (s : State) : Host.Outcome State Fault Refusal :=
  let p := s.getPR a
  s.settle (.ok ((s.setRes0 (deg p)).setRes1 (isZero p).toNat))

/-- POLY.COEF pa (R163). -/
def execPolyCoef (a : PReg) (s : State) : Host.Outcome State Fault Refusal :=
  s.settle (.ok (s.setRes0 (coef (s.getPR a) s.curArg0.toNat).toNat))

end Sys2Proof.Machine
end

