-- ==== Sys2Proof/Machine/Rs.lean ====
section
/-! DEFINITION. The stages of the Reed-Solomon decoder as functions (42_reed_solomon.md section 1, R183 to R195). -/

namespace Sys2Proof.Machine

/-- The i-th syndrome: the received word at `gf_exp(i + GEN_BASE)` (R183). -/
def syndromeAt (recv : Poly) (i : Nat) : Byte := peval recv (gfExp (i + Config.genBase))

/-- `syndrome`: S(x) with the i-th syndrome as the coefficient of x^i, and whether every syndrome is zero (R184). -/
def syndrome (recv : Poly) (twoS : Nat) : Poly × Bool :=
  let values := (List.range twoS).map (syndromeAt recv)
  (norm values.reverse, values.all (· = 0#8))

/-- `continue(r)`, the loop condition of Euclid (R187). -/
def euclidContinues (stop : EuclidStop) (R : Nat) (r : Poly) : Bool :=
  match stop with
  | .rational => R ≤ 2 * deg r
  | .floor => R / 2 ≤ deg r

/-- The passes of Euclid (R187 to R189), answering the last `t` and `r`. The fuel never runs out: remainder degrees
fall with every pass (R189; log 11). -/
def euclidLoop (stop : EuclidStop) (R : Nat) : (fuel : Nat) → (rLast r tLast t : Poly) → Except Err (Poly × Poly)
  | 0, _, _, _, _ => .error .zeroRemainder
  | fuel + 1, rLast, r, tLast, t =>
    if euclidContinues stop R r then
      if isZero r then .error .zeroRemainder
      else do
        let (q, r') ← pdiv rLast r
        euclidLoop stop R fuel r r' t (padd (pmul q t) tLast)
    else .ok (t, r)

/-- `euclid(S, R)`: initial state (R186), loop (R187 to R189) and normalization (R190), giving sigma and omega. -/
def euclid (stop : EuclidStop) (S : Poly) (R : Nat) : Except Err (Poly × Poly) := do
  let x := mono R 1#8
  let A := if deg x < deg S then S else x
  let B := if deg x < deg S then x else S
  let (t, r) ← euclidLoop stop R (A.length + B.length + 2) A B [0#8] [1#8]
  if coef t 0 = 0#8 then .error .sigmaConstant
  else do
    let inv ← gfInv (coef t 0)
    return (pscale t inv, pscale r inv)

/-- The search of R192 over `left` field elements from `i` up: the inverses of the roots in the order found, stopping
once `want` more are found. -/
def chienFrom (sigma : Poly) : (left want i : Nat) → Except Err (List Byte)
  | 0, _, _ => .ok []
  | _ + 1, 0, _ => .ok []
  | left + 1, want + 1, i =>
    if peval sigma (BitVec.ofNat 8 i) = 0#8 then do
      let loc ← gfInv (BitVec.ofNat 8 i)
      let rest ← chienFrom sigma left want (i + 1)
      return loc :: rest
    else chienFrom sigma left (want + 1) (i + 1)

/-- `chien(sigma)` (R192): the elements 1..255 in rising order. -/
def chien (sigma : Poly) : Except Err (List Byte) := do
  let L ← chienFrom sigma 255 (deg sigma) 1
  if L.length = deg sigma then return L else .error .rootCount

/-- The denominator of Forney's formula for the location at index `k`: the product over the other locations of
`1 xor gf_mul(L[j], xinv)` (R193). -/
def forneyDen (L : List Byte) (k : Nat) (xinv : Byte) : Byte :=
  (L.eraseIdx k).foldl (fun den X => gfMul den (gfAdd 1#8 (gfMul X xinv))) 1#8

/-- The magnitude of the location at index `k` (R193). -/
def forneyMagnitude (omega : Poly) (L : List Byte) (k : Nat) : Except Err Byte := do
  let xinv ← gfInv (L.getD k 0#8)
  let inv ← gfInv (forneyDen L k xinv)
  return gfMul (peval omega xinv) inv

/-- `forney(omega, L)`: one magnitude a location (R193). -/
def forney (omega : Poly) (L : List Byte) : Except Err (List Byte) :=
  (List.range L.length).mapM (forneyMagnitude omega L)

/-- The byte positions of the locations in a block of n bytes, all computed and checked before any is used; `n − 1 − log`
is negative exactly when `log ≥ n` (R195). -/
def positions (n : Nat) (L : List Byte) : Except Err (List Nat) := do
  let logs ← L.mapM gfLog
  if logs.all (· < n) then return logs.map (n - 1 - ·) else .error .negativePosition

end Sys2Proof.Machine
end

