-- ==== Sys2Proof/Machine/RsExec.lean ====
section
/-! DEFINITION. The meanings of the Reed-Solomon commands (42_reed_solomon.md section 2). -/

namespace Sys2Proof.Machine

/-- RS.SYND pd (R181, R185). -/
def execRsSynd (d : PReg) (s : State) : Host.Outcome State Fault Refusal :=
  s.settle do
    let n ← blockLength s.curArg1
    let twoS ← ecCount s.curArg2 n
    let a ← cwbufRange s.curArg0 n
    let (S, noError) := syndrome (norm (s.cwRead a n)) twoS
    return (s.setPR d S).setRes0 noError.toNat

/-- RS.EUCLID pd, pe, pa (R191). -/
def execRsEuclid (d e a : PReg) (s : State) : Host.Outcome State Fault Refusal :=
  s.settle do
    distinct d e
    let R ← atMost 511 s.curArg0
    let (sigma, omega) ← euclid Config.euclidStop (s.getPR a) R
    return (s.setPR d sigma).setPR e omega

/-- RS.CHIEN pa (R194). -/
def execRsChien (a : PReg) (s : State) : Host.Outcome State Fault Refusal :=
  s.settle do
    let L ← chien (s.getPR a)
    return { s with errCnt := BitVec.ofNat 8 L.length, errLoc := rsArray L, errMag := rsArray [] }.setRes0 L.length

/-- RS.FORNEY pa (R196); entries from ERRCNT up keep their magnitudes. -/
def execRsForney (a : PReg) (s : State) : Host.Outcome State Fault Refusal :=
  s.settle do
    let M ← forney (s.getPR a) s.locations
    return { s with errMag := rsArray (M ++ s.errMag.toList.drop M.length) }.setRes0 s.errCnt.toNat

/-- RS.APPLY (R195, R197). -/
def execRsApply (s : State) : Host.Outcome State Fault Refusal :=
  s.settle do
    let n ← blockLength s.curArg1
    let a ← cwbufRange s.curArg0 n
    let ps ← positions n s.locations
    return (s.cwCorrect a (ps.zip s.magnitudes)).setRes0 s.errCnt.toNat

/-- RS.DECODE (R198). -/
def execRsDecode (s : State) : Host.Outcome State Fault Refusal :=
  s.settle do
    let n ← blockLength s.curArg1
    let twoS ← ecCount s.curArg2 n
    let a ← cwbufRange s.curArg0 n
    let (S, noError) := syndrome (norm (s.cwRead a n)) twoS
    if noError then
      return (({ s with errCnt := 0#8, errLoc := rsArray [], errMag := rsArray [] }.setRes0 0).setRes1 1)
    else
      let (sigma, omega) ← euclid Config.euclidStop S twoS
      let L ← chien sigma
      let M ← forney omega L
      let ps ← positions n L
      let t := s.cwCorrect a (ps.zip M)
      return ({ t with errCnt := BitVec.ofNat 8 L.length, errLoc := rsArray L, errMag := rsArray M }.setRes0 L.length).setRes1 0

end Sys2Proof.Machine
end

