-- ==== Sys2Proof/Machine/SegExec.lean ====
section
/-! DEFINITION. The meanings of the segment decoder's commands (43_segment.md R221, R248 to R251). -/

namespace Sys2Proof.Machine

/-- SEG.DECODE (R221, R226, R231): the operand checks, then the decode starts. It stays BUSY; the steps that follow run
the mode indicators of the input one by one until a terminator or an error completes it (log 1). -/
def execSegDecode (s : State) : Host.Outcome State Fault Refusal :=
  match (do
    let _ ← qrVersion s.curArg2
    cwbufRange s.curArg0 s.curArg1.toNat : Except Err Nat) with
  | .error e => .next (s.raise e)
  | .ok _ => .next { s with segActive := true, seg := SegRun.start }

/-- SEG.CCB (R248). -/
def execSegCcb (s : State) : Host.Outcome State Fault Refusal :=
  s.settle do
    let m ← atMost 15 s.curArg0
    let v ← qrVersion s.curArg1
    match SegMode.ofValue m with
    | none => .error .badMode
    | some mode => return s.setRes0 (ccb mode v)

/-- SEG.ALNUM (R249). -/
def execSegAlnum (s : State) : Host.Outcome State Fault Refusal :=
  s.settle do
    let c ← alnumCode s.curArg0.toNat
    return s.setRes0 c.toNat

/-- SEG.KANJI (R250). -/
def execSegKanji (s : State) : Host.Outcome State Fault Refusal :=
  s.settle do
    let v ← atMost 0x1FFF s.curArg0
    return s.setRes0 (kanjiCode v)

/-- SEG.ECI (R251): the bytes after the lead byte `w[23:16]` are `w[15:8]` and `w[7:0]`. -/
def execSegEci (s : State) : Host.Outcome State Fault Refusal :=
  s.settle do
    let w ← atMost 0xFFFFFF s.curArg0
    let (hi, k) ← eciLeadByte (w / 2 ^ 16)
    return (s.setRes0 (hi <<< (8 * k) ||| w % 2 ^ 16 / 2 ^ (16 - 8 * k))).setRes1 (k + 1)

end Sys2Proof.Machine
end

