-- ==== Sys2Proof/Machine/Dispatch.lean ====
section
/-! DEFINITION. One arm per instruction: each calls its meaning. -/

namespace Sys2Proof.Machine

def exec (i : Instr) (s : State) : Host.Outcome State Fault Refusal :=
  match i with
  | .nop => Sys2Proof.Machine.execNop s
  | .clr => Sys2Proof.Machine.execClr s
  | .gfAdd => Sys2Proof.Machine.execGfAdd s
  | .gfMul => Sys2Proof.Machine.execGfMul s
  | .gfInv => Sys2Proof.Machine.execGfInv s
  | .gfExp => Sys2Proof.Machine.execGfExp s
  | .gfLog => Sys2Proof.Machine.execGfLog s
  | .polyLoad d => Sys2Proof.Machine.execPolyLoad d s
  | .polyStore a => Sys2Proof.Machine.execPolyStore a s
  | .polyMono d => Sys2Proof.Machine.execPolyMono d s
  | .polyAdd d a b => Sys2Proof.Machine.execPolyAdd d a b s
  | .polyMul d a b => Sys2Proof.Machine.execPolyMul d a b s
  | .polyScale d a => Sys2Proof.Machine.execPolyScale d a s
  | .polyShift d a => Sys2Proof.Machine.execPolyShift d a s
  | .polyDiv d e a b => Sys2Proof.Machine.execPolyDiv d e a b s
  | .polyEval a => Sys2Proof.Machine.execPolyEval a s
  | .polyDeg a => Sys2Proof.Machine.execPolyDeg a s
  | .polyCoef a => Sys2Proof.Machine.execPolyCoef a s
  | .rsSynd d => Sys2Proof.Machine.execRsSynd d s
  | .rsEuclid d e a => Sys2Proof.Machine.execRsEuclid d e a s
  | .rsChien a => Sys2Proof.Machine.execRsChien a s
  | .rsForney a => Sys2Proof.Machine.execRsForney a s
  | .rsApply => Sys2Proof.Machine.execRsApply s
  | .rsDecode => Sys2Proof.Machine.execRsDecode s
  | .segDecode => Sys2Proof.Machine.execSegDecode s
  | .segCcb => Sys2Proof.Machine.execSegCcb s
  | .segAlnum => Sys2Proof.Machine.execSegAlnum s
  | .segKanji => Sys2Proof.Machine.execSegKanji s
  | .segEci => Sys2Proof.Machine.execSegEci s
  | .modeTerminator => Sys2Proof.Machine.execModeTerminator s
  | .modeNumeric => Sys2Proof.Machine.execModeNumeric s
  | .modeAlphanumeric => Sys2Proof.Machine.execModeAlphanumeric s
  | .modeByte => Sys2Proof.Machine.execModeByte s
  | .modeEci => Sys2Proof.Machine.execModeEci s
  | .modeKanji => Sys2Proof.Machine.execModeKanji s

end Sys2Proof.Machine
end

