-- ==== Sys2Proof/Decode.lean ====
section
/-! DEFINITION. The decoder of command words (30_encoding.md R91 to R96) and of mode indicators (R99, R100), and the
encoder (R97). Both decoders are total and reject by the error the spec names. -/

namespace Sys2Proof

open Machine (Err)

/-- A 3-bit register field of a command word, its lowest bit at `lo` (R92). -/
def regField (w : Word) (lo : Nat) : PReg := ⟨w.toNat / 2 ^ lo % 8, Nat.mod_lt _ (by decide)⟩

/-- Field D, bits 10:8. -/
def fieldD (w : Word) : PReg := regField w 8

/-- Field A, bits 14:12. -/
def fieldA (w : Word) : PReg := regField w 12

/-- Field B, bits 18:16. -/
def fieldB (w : Word) : PReg := regField w 16

/-- Field E, bits 22:20. -/
def fieldE (w : Word) : PReg := regField w 20

/-- The reserved bits 11, 15, 19 and 31:23 (R96). -/
def reservedMask : Word := 0xFF888800#32

/-- The opcode map of R93: the instruction a word with the opcode `op` names, reserved bits not looked at. -/
def decodeOp (op : Nat) (w : Word) : Option Instr :=
  match op with
  | 0x00 => some .nop
  | 0x01 => some .clr
  | 0x10 => some .gfAdd
  | 0x11 => some .gfMul
  | 0x12 => some .gfInv
  | 0x13 => some .gfExp
  | 0x14 => some .gfLog
  | 0x20 => some (.polyLoad (fieldD w))
  | 0x21 => some (.polyStore (fieldA w))
  | 0x22 => some (.polyMono (fieldD w))
  | 0x23 => some (.polyAdd (fieldD w) (fieldA w) (fieldB w))
  | 0x24 => some (.polyMul (fieldD w) (fieldA w) (fieldB w))
  | 0x25 => some (.polyScale (fieldD w) (fieldA w))
  | 0x26 => some (.polyShift (fieldD w) (fieldA w))
  | 0x27 => some (.polyDiv (fieldD w) (fieldE w) (fieldA w) (fieldB w))
  | 0x28 => some (.polyEval (fieldA w))
  | 0x29 => some (.polyDeg (fieldA w))
  | 0x2A => some (.polyCoef (fieldA w))
  | 0x30 => some (.rsSynd (fieldD w))
  | 0x31 => some (.rsEuclid (fieldD w) (fieldE w) (fieldA w))
  | 0x32 => some (.rsChien (fieldA w))
  | 0x33 => some (.rsForney (fieldA w))
  | 0x34 => some .rsApply
  | 0x35 => some .rsDecode
  | 0x40 => some .segDecode
  | 0x41 => some .segCcb
  | 0x42 => some .segAlnum
  | 0x43 => some .segKanji
  | 0x44 => some .segEci
  | _ => none

/-- The command decoder. An undefined opcode is found before a reserved bit (R96, R292). -/
def decode (w : Word) : Except Err Instr :=
  match decodeOp (w.toNat % 256) w with
  | none => .error .undefinedOpcode
  | some i => if w &&& reservedMask = 0#32 then .ok i else .error .reservedBit

/-- The mode indicator decoder (R99, R228); the other ten values are FORMAT 2 (R100, R229). -/
def decodeMode (m : BitVec 4) : Except Err Instr :=
  match m.toNat with
  | 0 => .ok .modeTerminator
  | 1 => .ok .modeNumeric
  | 2 => .ok .modeAlphanumeric
  | 4 => .ok .modeByte
  | 7 => .ok .modeEci
  | 8 => .ok .modeKanji
  | _ => .error .badMode

/-- What carries an instruction: a command word written to CMD, or four bits of the segment decoder's input. -/
inductive Code where
  | command (w : Word)
  | indicator (m : BitVec 4)
  deriving DecidableEq, Repr

/-- Both decoders behind one name. -/
def Code.decode : Code → Except Err Instr
  | .command w => Sys2Proof.decode w
  | .indicator m => Sys2Proof.decodeMode m

/-- A command word from its opcode and fields: `OP | D<<8 | A<<12 | B<<16 | E<<20` (R97). -/
def commandWord (op : Nat) (d a b e : PReg) : Word :=
  BitVec.ofNat 32 (op + d.val * 2 ^ 8 + a.val * 2 ^ 12 + b.val * 2 ^ 16 + e.val * 2 ^ 20)

/-- The encoder: every unused field is 0 (R97). -/
def encode : Instr → Code
  | .nop => .command (commandWord 0x00 0 0 0 0)
  | .clr => .command (commandWord 0x01 0 0 0 0)
  | .gfAdd => .command (commandWord 0x10 0 0 0 0)
  | .gfMul => .command (commandWord 0x11 0 0 0 0)
  | .gfInv => .command (commandWord 0x12 0 0 0 0)
  | .gfExp => .command (commandWord 0x13 0 0 0 0)
  | .gfLog => .command (commandWord 0x14 0 0 0 0)
  | .polyLoad d => .command (commandWord 0x20 d 0 0 0)
  | .polyStore a => .command (commandWord 0x21 0 a 0 0)
  | .polyMono d => .command (commandWord 0x22 d 0 0 0)
  | .polyAdd d a b => .command (commandWord 0x23 d a b 0)
  | .polyMul d a b => .command (commandWord 0x24 d a b 0)
  | .polyScale d a => .command (commandWord 0x25 d a 0 0)
  | .polyShift d a => .command (commandWord 0x26 d a 0 0)
  | .polyDiv d e a b => .command (commandWord 0x27 d a b e)
  | .polyEval a => .command (commandWord 0x28 0 a 0 0)
  | .polyDeg a => .command (commandWord 0x29 0 a 0 0)
  | .polyCoef a => .command (commandWord 0x2A 0 a 0 0)
  | .rsSynd d => .command (commandWord 0x30 d 0 0 0)
  | .rsEuclid d e a => .command (commandWord 0x31 d a 0 e)
  | .rsChien a => .command (commandWord 0x32 0 a 0 0)
  | .rsForney a => .command (commandWord 0x33 0 a 0 0)
  | .rsApply => .command (commandWord 0x34 0 0 0 0)
  | .rsDecode => .command (commandWord 0x35 0 0 0 0)
  | .segDecode => .command (commandWord 0x40 0 0 0 0)
  | .segCcb => .command (commandWord 0x41 0 0 0 0)
  | .segAlnum => .command (commandWord 0x42 0 0 0 0)
  | .segKanji => .command (commandWord 0x43 0 0 0 0)
  | .segEci => .command (commandWord 0x44 0 0 0 0)
  | .modeTerminator => .indicator 0#4
  | .modeNumeric => .indicator 1#4
  | .modeAlphanumeric => .indicator 2#4
  | .modeByte => .indicator 4#4
  | .modeEci => .indicator 7#4
  | .modeKanji => .indicator 8#4

/-- The bits of a command word that mean something for an instruction: the opcode, the reserved bits and the register
fields it uses (the `encoding` column of opcode_table.json, its x bits left out). -/
def usedBits : Instr → Word
  | .polyLoad _ | .polyMono _ | .rsSynd _ => 0xFF888FFF#32
  | .polyStore _ | .polyEval _ | .polyDeg _ | .polyCoef _ | .rsChien _ | .rsForney _ => 0xFF88F8FF#32
  | .polyScale _ _ | .polyShift _ _ => 0xFF88FFFF#32
  | .polyAdd _ _ _ | .polyMul _ _ _ => 0xFF8FFFFF#32
  | .rsEuclid _ _ _ => 0xFFF8FFFF#32
  | .polyDiv _ _ _ _ => 0xFFFFFFFF#32
  | .nop | .clr | .gfAdd | .gfMul | .gfInv | .gfExp | .gfLog | .rsApply | .rsDecode
  | .segDecode | .segCcb | .segAlnum | .segKanji | .segEci
  | .modeTerminator | .modeNumeric | .modeAlphanumeric | .modeByte | .modeEci | .modeKanji => 0xFF8888FF#32

/-- The instruction the decoder reads from a table row's bits: a mode indicator is the low four bits of a row of at
most one byte (log 18), a command the 32 bits of its word. -/
def decodeTableWord (nbits w : Nat) : Option Instr :=
  if nbits ≤ 8 then (decodeMode (BitVec.ofNat 4 w)).toOption else (decode (BitVec.ofNat 32 w)).toOption

end Sys2Proof
end

