-- ==== Sys2Proof/Machine/Fetch.lean ====
section
/-! DEFINITION. Which instruction the sequencer runs next: the latched command word (10_state.md R22, R36), or, inside
SEG.DECODE, the next mode indicator (43_segment.md R226). -/

namespace Sys2Proof.Machine

/-- The mode indicator at the cursor; fewer than 4 unread bits are an implicit terminator (R226). -/
def State.nextMode (s : State) : Except Err Instr :=
  if s.avail s.seg.pos < 4 then .ok .modeTerminator
  else decodeMode (BitVec.ofNat 4 (s.streamField s.seg.pos 4))

/-- The instruction the sequencer runs while BUSY. -/
def State.fetch (s : State) : Except Err Instr := if s.segActive then s.nextMode else decode s.curCmd

/-- What happens when there is none: the command word is illegal (R96), or the mode indicator is (R229, R245). -/
def State.fetchFail (s : State) (e : Err) : State := if s.segActive then s.segFail e else s.raise e

/-- A state whose next step runs the command word `w`: it has just been issued (R30), RST is released and the host has
nothing to do. -/
def State.withCommand (s : State) (w : Word) : State := { s.issue w with busyLeft := 0, rst := false, hostQueue := [] }

/-- A state whose next step runs the mode indicator `m`: a SEG.DECODE of version 1 stands at the start of the three
bytes of CWBUF from 0, which hold `m` and then zeros (the longest header of version 1 is 14 bits; log 13). -/
def State.withIndicator (s : State) (m : BitVec 4) : State :=
  { (s.withCommand 0x00000040#32).cwWrite 0 [BitVec.ofNat 8 (16 * m.toNat), 0#8, 0#8] with
    curArg0 := 0#32, curArg1 := 3#32, curArg2 := 1#32, segActive := true, seg := SegRun.start }

end Sys2Proof.Machine
end

