-- ==== Sys2Proof/Machine/Step.lean ====
section
/-! DEFINITION. One step of the machine: one action of the host, or one step of the sequencer (10_state.md R21, R22). -/

namespace Sys2Proof.Machine

/-- The sequencer's step: IDLE waits; BUSY runs the instruction it finds, or completes with the error that there is
none (R22, R96, R229). -/
def sequencerStep (s : State) : Host.Outcome State Fault Refusal :=
  match s.seq with
  | .idle => .next s
  | .busy =>
    match s.fetch with
    | .ok i => exec i s
    | .error e => .next (s.fetchFail e)

/-- One step: the host's, or the sequencer's (R21). -/
def step (s : State) : Host.Outcome State Fault Refusal :=
  match s.turn with
  | .host t => .next t
  | .sequencer t => sequencerStep t

/-- `s` with a table row's instruction where the next step fetches it: a command word as issued, a mode indicator at
the segment decoder's cursor (log 13). -/
def State.withFetchWord (s : State) (nbits w : Nat) : State :=
  if nbits ≤ 8 then s.withIndicator (BitVec.ofNat 4 w) else s.withCommand (BitVec.ofNat 32 w)

end Sys2Proof.Machine
end

