-- ==== Sys2Proof/WellFormed.lean ====
section
/-! DEFINITION. Which instruction terms can have their effect. A register field is a `Fin 8`, so every term names
registers that exist; the one condition the spec puts on the fields is R293: the two destinations differ. -/

namespace Sys2Proof

/-- The two destination fields differ (R26, R293). An ill-formed instruction still decodes: running it raises
ARGUMENT 5. -/
def Instr.wellFormed : Instr → Bool
  | .polyDiv d e _ _ => d ≠ e
  | .rsEuclid d e _ => d ≠ e
  | _ => true

/-- The instruction is one of the six mode indicators, carried by the bitstream and not by a command word. -/
def Instr.isMode : Instr → Bool
  | .modeTerminator | .modeNumeric | .modeAlphanumeric | .modeByte | .modeEci | .modeKanji => true
  | _ => false

end Sys2Proof
end

