-- ==== Sys2Proof/Safety.lean ====
section
/-! DEFINITION. The terms the claims are stated in: what stays the same, how a command ends, the invariants of the
machine, and what the spec's functions mean, said independently of the model's definitions of them. -/

namespace Sys2Proof.Machine

/-- The outcome is a next state with the property. -/
def Answers (o : Host.Outcome State Fault Refusal) (P : State → Prop) : Prop := ∃ t, o = .next t ∧ P t

/-! ### What stays the same -/

/-- What no instruction writes: OVR, CTRL, the latched command, the operand registers (R34, R36, R291), the RST input, and
the model's own fields. -/
def SameShell (s t : State) : Prop :=
  t.ovr = s.ovr ∧ t.ie = s.ie ∧ t.curCmd = s.curCmd
    ∧ t.curArg0 = s.curArg0 ∧ t.curArg1 = s.curArg1 ∧ t.curArg2 = s.curArg2
    ∧ t.arg0 = s.arg0 ∧ t.arg1 = s.arg1 ∧ t.arg2 = s.arg2
    ∧ t.rst = s.rst ∧ t.epoch = s.epoch ∧ t.draws = s.draws ∧ t.busyLeft = s.busyLeft
    ∧ t.hostQueue = s.hostQueue ∧ t.reply = s.reply

/-- RES0 and RES1. -/
def SameResults (s t : State) : Prop := t.res0 = s.res0 ∧ t.res1 = s.res1

/-- ERRCNT, ERRLOC and ERRMAG. -/
def SameRs (s t : State) : Prop := t.errCnt = s.errCnt ∧ t.errLoc = s.errLoc ∧ t.errMag = s.errMag

/-- PR0..PR7. -/
def SamePR (s t : State) : Prop := t.pr = s.pr

/-- Every polynomial register but those named. -/
def SamePRExcept (s t : State) (ds : List PReg) : Prop := ∀ i, i ∉ ds → t.getPR i = s.getPR i

/-- Every byte of memory. -/
def SameMem (s t : State) : Prop := ∀ a, t.readByte a = s.readByte a

/-- Every byte of memory but those at the bus offsets named. -/
def SameMemExcept (s t : State) (written : Nat → Prop) : Prop := ∀ a, ¬ written a → t.readByte a = s.readByte a

/-- SEQ, STATUS without OVR, and the segment decoder. -/
def SameProgress (s t : State) : Prop :=
  t.seq = s.seq ∧ t.done = s.done ∧ t.err = s.err ∧ t.errCode = s.errCode ∧ t.errDetail = s.errDetail
    ∧ t.segActive = s.segActive ∧ t.seg = s.seg

/-! ### How a command ends -/

/-- Completion without error (R291). -/
def Completed (s t : State) : Prop :=
  t.seq = .idle ∧ t.done = true ∧ t.err = false ∧ t.errCode = 0#4 ∧ t.errDetail = 0#4
    ∧ t.segActive = false ∧ t.seg = SegRun.start ∧ SameShell s t

/-- Completion with the error `e` (R291). -/
def Failed (e : Err) (s t : State) : Prop :=
  t.seq = .idle ∧ t.done = true ∧ t.err = true ∧ t.errCode = e.code ∧ t.errDetail = e.detail
    ∧ t.segActive = false ∧ t.seg = SegRun.start ∧ SameShell s t

/-- Completion with the error `e`, and nothing written but STATUS (R291). -/
def FailedClean (e : Err) (s t : State) : Prop :=
  Failed e s t ∧ SameResults s t ∧ SameRs s t ∧ SamePR s t ∧ SameMem s t

/-- Completion of a command that writes no register but RES0 and RES1. -/
def CompletedResults (s t : State) (r0 r1 : Word) : Prop :=
  Completed s t ∧ t.res0 = r0 ∧ t.res1 = r1 ∧ SameRs s t ∧ SamePR s t ∧ SameMem s t

/-- Completion of a command that writes polynomial register `d` and RES0, RES1. -/
def CompletedPoly (s t : State) (d : PReg) (p : Poly) (r0 r1 : Word) : Prop :=
  Completed s t ∧ t.getPR d = p ∧ SamePRExcept s t [d] ∧ t.res0 = r0 ∧ t.res1 = r1 ∧ SameRs s t ∧ SameMem s t

/-! ### Invariants -/

/-- A normalized coefficient list (R24). -/
abbrev Normalized (p : Poly) : Prop := 1 ≤ p.length ∧ (p = [0#8] ∨ p.head? ≠ some 0#8)

/-- What a polynomial register holds (R24). -/
abbrev State.PolysOk (s : State) : Prop := ∀ i : PReg, Normalized (s.getPR i) ∧ (s.getPR i).length ≤ 512

/-- The flags agree: BUSY rules out DONE and ERR (R30, R333), and ERRCODE and ERRDETAIL are a row of the table of R287
exactly while ERR is 1. -/
def State.StatusOk (s : State) : Prop :=
  (s.seq = .busy → s.done = false ∧ s.err = false)
    ∧ (s.err = false → s.errCode = 0#4 ∧ s.errDetail = 0#4)
    ∧ (s.err = true → ∃ e : Err, s.errCode = e.code ∧ s.errDetail = e.detail)

/-- The segment decoder: nothing outside SEG.DECODE (R38); inside it a checked SEG.DECODE is the command in progress, the
cursor is inside the input, and the output and the records stay within what the bits read allow (R247). -/
def State.SegOk (s : State) : Prop :=
  (s.segActive = false → s.seg = SegRun.start)
    ∧ (s.segActive = true → s.seq = .busy ∧ decode s.curCmd = .ok .segDecode
        ∧ 1 ≤ s.curArg2.toNat ∧ s.curArg2.toNat ≤ 40 ∧ s.curArg0.toNat + s.curArg1.toNat ≤ 4096
        ∧ s.seg.pos ≤ 8 * s.curArg1.toNat ∧ 10 * s.seg.nout ≤ 3 * s.seg.pos ∧ 12 * s.seg.nseg ≤ s.seg.pos)

/-- The RS arrays: the meaningful locations are nonzero and distinct, the other entries 0 (R27, R192, R194). -/
def State.RsOk (s : State) : Prop :=
  s.locations.Nodup ∧ 0#8 ∉ s.locations
    ∧ ∀ k : Fin 255, s.errCnt.toNat ≤ k.val → s.errLoc[k] = 0#8 ∧ s.errMag[k] = 0#8

/-- While RST is asserted every piece of the block's state holds its value of R42 (R321). -/
def State.HeldOk (s : State) : Prop :=
  s.rst = true → s = { State.reset with
    rst := true, epoch := s.epoch, draws := s.draws, hostQueue := s.hostQueue, reply := s.reply }

/-- A bus offset that belongs to one of the three memories (R61). -/
def InMemory (a : Nat) : Prop :=
  (0x01000 ≤ a ∧ a ≤ 0x01FFF) ∨ (0x04000 ≤ a ∧ a ≤ 0x06FFF) ∨ (0x08000 ≤ a ∧ a ≤ 0x13FFF)

/-- Every byte listed lies in a memory the block has. -/
def State.MemMapped (s : State) : Prop := ∀ c ∈ s.mem, InMemory c.1

/-! ### Turns, encodings and the address map -/

/-- The action is a bus access. -/
def HostOp.isAccess : HostOp → Bool
  | .read _ _ | .write _ _ _ | .wait => true
  | .rst _ | .pass => false

/-- It is the sequencer's turn: the host has nothing to do, or an access that may not be made yet (R336). -/
def State.SequencerTurn (s : State) : Prop :=
  s.hostQueue = [] ∨ ∃ op rest, s.hostQueue = op :: rest ∧ op.isAccess = true ∧ s.hostMayMove = false

/-- The opcodes of the table of R93. -/
def definedOpcodes : List Nat :=
  [0x00, 0x01, 0x10, 0x11, 0x12, 0x13, 0x14]
    ++ [0x20, 0x21, 0x22, 0x23, 0x24, 0x25, 0x26, 0x27, 0x28, 0x29, 0x2A]
    ++ [0x30, 0x31, 0x32, 0x33, 0x34, 0x35, 0x40, 0x41, 0x42, 0x43, 0x44]

/-- The offsets that are not in the list of R66. -/
def MappedByte (a : Nat) : Prop :=
  a ≤ 0x00027 ∨ (0x00400 ≤ a ∧ a ≤ 0x004FE) ∨ (0x00500 ≤ a ∧ a ≤ 0x005FE) ∨ InMemory a

/-- The polynomial registers an instruction may write (R25, R93). -/
def prDestinations : Instr → List PReg
  | .clr => [0, 1, 2, 3, 4, 5, 6, 7]
  | .polyLoad d | .polyMono d | .polyAdd d _ _ | .polyMul d _ _ | .polyScale d _ | .polyShift d _ | .rsSynd d => [d]
  | .polyDiv d e _ _ | .rsEuclid d e _ => [d, e]
  | _ => []

/-- The instructions that may write ERRCNT, ERRLOC or ERRMAG (R27). -/
def writesRs : Instr → Bool
  | .clr | .rsChien _ | .rsForney _ | .rsDecode => true
  | _ => false

/-- The instructions that may write RES0: those R93 says so of, and the indicators that can end a SEG.DECODE (R227, R245). -/
def writesRes0 : Instr → Bool
  | .clr | .gfAdd | .gfMul | .gfInv | .gfExp | .gfLog | .polyLoad _ | .polyStore _ | .polyEval _ | .polyDeg _ | .polyCoef _
  | .rsSynd _ | .rsChien _ | .rsForney _ | .rsApply | .rsDecode | .segCcb | .segAlnum | .segKanji | .segEci
  | .modeTerminator | .modeNumeric | .modeAlphanumeric | .modeByte | .modeEci | .modeKanji => true
  | _ => false

/-- The instructions that may write RES1 (R93, R227, R245). -/
def writesRes1 : Instr → Bool
  | .clr | .polyDeg _ | .rsDecode | .segEci
  | .modeTerminator | .modeNumeric | .modeAlphanumeric | .modeByte | .modeEci | .modeKanji => true
  | _ => false

/-- The bus offsets an instruction may write: CWBUF, or the segment decoder's outputs, or none (R37). -/
def mayWrite : Instr → Nat → Prop
  | .polyStore _, a | .rsApply, a | .rsDecode, a => 0x01000 ≤ a ∧ a ≤ 0x01FFF
  | .modeNumeric, a | .modeAlphanumeric, a | .modeByte, a | .modeKanji, a => 0x04000 ≤ a
  | _, _ => False

/-- Where a mode indicator may write while its SEG.DECODE is within bounds: OUTBUF from the next output byte on, and the
next SEGTAB entry (R224, R225, R246). -/
def segmentMayWrite (s : State) (a : Nat) : Prop :=
  (0x04000 + s.seg.nout ≤ a ∧ a ≤ 0x06FFF) ∨ (0x08000 + 16 * s.seg.nseg ≤ a ∧ a < 0x08000 + 16 * s.seg.nseg + 16)

/-- What the host sees at a bus offset of a window or a memory (R29). -/
def State.visibleByte (s : State) (a : Nat) : Byte :=
  if 0x00400 ≤ a ∧ a ≤ 0x004FE then s.errLoc.toList.getD (a - 0x00400) 0#8
  else if 0x00500 ≤ a ∧ a ≤ 0x005FE then s.errMag.toList.getD (a - 0x00500) 0#8
  else s.readByte a

/-! ### GF(256) and polynomials, independently of the tables -/

/-- Doubling modulo the primitive polynomial (R121). -/
def double (x : Nat) : Nat := if 2 * x < 256 then 2 * x else 2 * x ^^^ 0x11D

/-- `α^i` by repeated doubling (R121). -/
def alphaPow : Nat → Nat
  | 0 => 1
  | i + 1 => double (alphaPow i)

/-- The carry-less product of `a` and the low `k` bits of `b`, reduced by the primitive polynomial (R2). -/
def reducedProduct : (k a b : Nat) → Nat
  | 0, _, _ => 0
  | k + 1, a, b => (if b % 2 = 1 then a else 0) ^^^ reducedProduct k (double a) (b / 2)

/-- `f 0 xor ... xor f (n-1)`. -/
def xorSum (f : Nat → Byte) : Nat → Byte
  | 0 => 0#8
  | n + 1 => xorSum f n ^^^ f n

/-- `x^k` in the field. -/
def gfPow (x : Byte) : Nat → Byte
  | 0 => 1#8
  | k + 1 => gfMul (gfPow x k) x

/-! ### The pseudo-instruction RS.STAGES (R98) -/

/-- Run one command of a host script with operands `a0`, `a1`, `a2`, unless an earlier one failed. -/
def State.stage (s : State) (i : Instr) (a0 a1 a2 : Word) : State :=
  if s.err then s
  else match exec i { s with curArg0 := a0, curArg1 := a1, curArg2 := a2 } with
    | .next t => t
    | _ => s

/-- RS.STAGES off, n, twoS over p0, p1 and p2 (R98), stopping at the first error and skipping the later stages when
every syndrome is zero. -/
def State.rsStages (s : State) (off n twoS : Word) : State :=
  let s1 := s.stage (.rsSynd 0) off n twoS
  if s1.err = false ∧ s1.res0 ≠ 0#32 then s1
  else
    let s2 := s1.stage (.rsEuclid 1 2 0) twoS n twoS
    let s3 := s2.stage (.rsChien 1) twoS n twoS
    let s4 := s3.stage (.rsForney 2) twoS n twoS
    s4.stage .rsApply off n twoS

/-! ### Bit streams of the segment decoder -/

/-- The `w` binary digits of `v`, most significant first (R69). -/
def bitsOf : (w v : Nat) → List Bool
  | 0, _ => []
  | w + 1, v => v.testBit w :: bitsOf w v

/-- The input holds these bits at cursor `pos`, all before its end. -/
def State.Holds (s : State) (pos : Nat) (bits : List Bool) : Prop :=
  pos + bits.length ≤ 8 * s.curArg1.toNat ∧ ∀ j (h : j < bits.length), s.streamBit (pos + j) = bits[j]

/-- The groups of a numeric segment: 3 digits in 10 bits, 2 in 7, 1 in 4 (R234). -/
def numericBits : List Nat → List Bool
  | [] => []
  | [a] => bitsOf 4 a
  | [a, b] => bitsOf 7 (10 * a + b)
  | a :: b :: c :: ds => bitsOf 10 (100 * a + 10 * b + c) ++ numericBits ds

/-- The pairs and the trailing single of an alphanumeric segment (R236). -/
def alnumBits : List Nat → List Bool
  | [] => []
  | [a] => bitsOf 6 a
  | a :: b :: is => bitsOf 11 (45 * a + b) ++ alnumBits is

/-- The characters of a whole group: three digits, two alphanumeric characters, one byte, one Kanji character (R234, R236,
R239, R240). -/
def groupSize : SegMode → Nat
  | .numeric => 3
  | .alphanumeric => 2
  | .byte | .kanji => 1

/-- The bits of a whole group. -/
def groupWidth : SegMode → Nat
  | .numeric => 10
  | .alphanumeric => 11
  | .byte => 8
  | .kanji => 13

/-- The values of a whole group that are in range are those below this. -/
def groupLimit : SegMode → Nat
  | .numeric => 1000
  | .alphanumeric => 2025
  | .byte => 256
  | .kanji => 8192

/-- The ASCII code of an alphanumeric character (R238). -/
def alnumAscii (i : Nat) : Byte :=
  BitVec.ofNat 8 ("0123456789ABCDEFGHIJKLMNOPQRSTUVWXYZ $%*+-./:".toList.getD i ' ').toNat

/-- The bytes a whole group of value `g` gives (R235 to R241). -/
def groupBytes (m : SegMode) (g : Nat) : List Byte :=
  match m with
  | .numeric => [BitVec.ofNat 8 (0x30 + g / 100), BitVec.ofNat 8 (0x30 + g / 10 % 10), BitVec.ofNat 8 (0x30 + g % 10)]
  | .alphanumeric => [alnumAscii (g / 45), alnumAscii (g % 45)]
  | .byte => [BitVec.ofNat 8 g]
  | .kanji =>
    let c := g / 0xC0 * 256 + g % 0xC0 + if g < 5952 then 0x8140 else 0xC140
    [BitVec.ofNat 8 (c / 256), BitVec.ofNat 8 c]

/-- Reading a group of `w` bits at `pos` whose values end below `limit` fails: past the end (R223), or with the error of a
value out of range. -/
def State.fieldFails (s : State) (pos w limit : Nat) (range e : Err) : Prop :=
  (s.avail pos < w ∧ e = .pastEnd) ∨ (w ≤ s.avail pos ∧ limit ≤ s.streamField pos w ∧ e = range)

/-- With `rest` characters left at `pos`, the next group of a data segment fails with the error `e` (R223, R234, R236, R239,
R240). A byte or a Kanji character is always in range. -/
def State.groupFails (s : State) (m : SegMode) (rest pos : Nat) (e : Err) : Prop :=
  match m with
  | .numeric =>
    if 3 ≤ rest then s.fieldFails pos 10 1000 .numericRange e
    else if rest = 2 then s.fieldFails pos 7 100 .numericRange e
    else s.fieldFails pos 4 10 .numericRange e
  | .alphanumeric =>
    if 2 ≤ rest then s.fieldFails pos 11 2025 .alnumRange e else s.fieldFails pos 6 45 .alnumRange e
  | .byte => s.avail pos < 8 ∧ e = .pastEnd
  | .kanji => s.avail pos < 13 ∧ e = .pastEnd

/-- What a finished data segment leaves (R225, R230, R246): its output, its record field by field, the segment decoder
moved on over `bits` bits of count field and characters, and nothing else. -/
def SegmentDone (s t : State) (mode count : Nat) (eci : Option (BitVec 21)) (bits : Nat) (out : List Byte) : Prop :=
  t.readBytes (0x04000 + s.seg.nout) out.length = out
    ∧ t.readByte (0x08000 + 16 * s.seg.nseg) = BitVec.ofNat 8 mode
    ∧ t.readByte (0x08000 + 16 * s.seg.nseg + 1) = (if eci.isSome then 1#8 else 0#8)
    ∧ fromLittleEndian (t.readBytes (0x08000 + 16 * s.seg.nseg + 2) 2) = count
    ∧ fromLittleEndian (t.readBytes (0x08000 + 16 * s.seg.nseg + 4) 4) = (match eci with | some v => v.toNat | none => 0)
    ∧ fromLittleEndian (t.readBytes (0x08000 + 16 * s.seg.nseg + 8) 4) = s.seg.nout
    ∧ fromLittleEndian (t.readBytes (0x08000 + 16 * s.seg.nseg + 12) 4) = out.length
    ∧ t.seg = { pos := s.seg.pos + 4 + bits, nout := s.seg.nout + out.length, nseg := s.seg.nseg + 1, eci := s.seg.eci }
    ∧ SameMemExcept s t (fun a =>
        (0x04000 + s.seg.nout ≤ a ∧ a < 0x04000 + s.seg.nout + out.length)
        ∨ (0x08000 + 16 * s.seg.nseg ≤ a ∧ a < 0x08000 + 16 * s.seg.nseg + 16))
    ∧ SameProgress s { t with seg := s.seg } ∧ SameShell s t ∧ SameResults s t ∧ SameRs s t ∧ SamePR s t

end Sys2Proof.Machine
end

