-- ==== Sys2Proof/Certificates/Slice0/Obligations.lean ====
section
/-! DEFINITION. The statements for the provers. -/

open Sys2Proof Sys2Proof.Machine

/-! ### Encodings -/

/-- R92, R97: every instruction decodes from its code, every operand at every value. -/
def Obligations.EveryInstructionDecodesFromItsEncoding : Prop :=
  ∀ i : Instr, (encode i).decode = .ok i

/-- R92, R96, R97: a word that decodes agrees with the encoding of its instruction on every bit that means something, and
the other bits have no effect. -/
def Obligations.DecoderReadsExactlyTheUsedBits : Prop :=
  ∀ (w : Word) (i : Instr), decode w = .ok i →
    encode i = .command (w &&& usedBits i)
      ∧ ∀ w' : Word, w' &&& usedBits i = w &&& usedBits i → decode w' = .ok i

/-- R96, R292: an undefined opcode is ILLEGAL 1, a defined one with a reserved bit set ILLEGAL 2, and nothing but STATUS
changes; every other word is an instruction. -/
def Obligations.IllegalWordsRaiseIllegal : Prop :=
  ∀ s : State, s.seq = .busy → s.segActive = false → s.SequencerTurn →
    if s.curCmd.toNat % 256 ∉ definedOpcodes then Answers (step s) (FailedClean .undefinedOpcode s)
    else if s.curCmd &&& 0xFF888800#32 ≠ 0#32 then Answers (step s) (FailedClean .reservedBit s)
    else ∃ i, decode s.curCmd = .ok i

/-- Words and indicators the spec writes out decode to what it says they are (30_encoding.md R97, R99, R100;
95_test_vectors.md). -/
def Obligations.WrittenOutCodesDecode : Prop :=
  decode 0x00402327#32 = .ok (.polyDiv 3 4 2 0) ∧ decode 0x00010224#32 = .ok (.polyMul 2 0 1)
    ∧ decode 0x00200131#32 = .ok (.rsEuclid 1 2 0) ∧ decode 0x00003021#32 = .ok (.polyStore 3)
    ∧ decode 0x00000120#32 = .ok (.polyLoad 1) ∧ decode 0x00000011#32 = .ok .gfMul
    ∧ decode 0x00000000#32 = .ok .nop ∧ decode 0x00000035#32 = .ok .rsDecode
    ∧ decode 0x00000040#32 = .ok .segDecode
    ∧ decode 0x00000815#32 = .error .undefinedOpcode ∧ decode 0x00000811#32 = .error .reservedBit
    ∧ decodeMode 0b0001#4 = .ok .modeNumeric ∧ decodeMode 0b0111#4 = .ok .modeEci
    ∧ ∀ m : BitVec 4, m.toNat ∈ [3, 5, 6, 9, 10, 11, 12, 13, 14, 15] → decodeMode m = .error .badMode

/-! ### Steps -/

/-- R22, R36: while BUSY the sequencer runs the latched command word; the model adds nothing around it, but that a turn the
host passes leaves the host's queue (log 6), and a step of an IDLE block with no host access waits. -/
def Obligations.StepRunsTheLatchedCommand : Prop :=
  (∀ (s : State) (i : Instr), s.seq = .busy → s.segActive = false → s.SequencerTurn →
      decode s.curCmd = .ok i → step s = exec i s)
    ∧ (∀ (s : State) (i : Instr) (rest : List HostOp), s.seq = .busy → s.segActive = false →
      s.hostQueue = .pass :: rest → decode s.curCmd = .ok i → step s = exec i { s with hostQueue := rest })
    ∧ (∀ s : State, s.seq = .idle → s.hostQueue = [] → step s = .next s)
    ∧ ∀ (s : State) (w : Word) (i : Instr), decode w = .ok i →
        step (s.withFetchWord 32 w.toNat) = exec i (s.withFetchWord 32 w.toNat)

/-- R226, R229, R245: inside SEG.DECODE a step runs the mode indicator at the cursor, an implicit terminator when fewer
than 4 bits are left; an unsupported mode is FORMAT 2 and zeroes the results. -/
def Obligations.StepRunsTheModeIndicator : Prop :=
  ∀ s : State, s.seq = .busy → s.segActive = true → s.SequencerTurn →
    if s.avail s.seg.pos < 4 then step s = exec .modeTerminator s
    else match decodeMode (BitVec.ofNat 4 (s.streamField s.seg.pos 4)) with
      | .ok i => step s = exec i s
      | .error _ => Answers (step s) fun t =>
          Failed .badMode s t ∧ t.res0 = 0#32 ∧ t.res1 = 0#32 ∧ SameRs s t ∧ SamePR s t ∧ SameMem s t

/-- R9: whatever the state, a step answers a next state: no fault and no refusal. -/
def Obligations.StepAlwaysAnswers : Prop :=
  ∀ s : State, Answers (step s) fun _ => True

/-- R334: a BUSY block left alone by the host is IDLE again with DONE set within 2·L + 2 steps, L the byte count SEG.DECODE
takes. -/
def Obligations.BusyCommandCompletes : Prop :=
  ∀ s : State, s.seq = .busy → s.hostQueue = [] →
    ∃ (k : Nat) (t : State), k ≤ 2 * s.curArg1.toNat + 2 ∧ Host.Core.run Sys2Proof.core k s = .next t
      ∧ t.seq = .idle ∧ t.done = true

/-! ### Invariants -/

/-- The invariants below hold at reset. -/
def Obligations.ResetMeetsTheInvariants : Prop :=
  Memory.wf State.reset.mem ∧ State.reset.PolysOk ∧ State.reset.StatusOk ∧ State.reset.SegOk ∧ State.reset.RsOk
    ∧ State.reset.MemMapped ∧ State.reset.HeldOk

/-- The memory list stays in its canonical form. The form is the model's (log 5). -/
def Obligations.MemoryStaysCanonical : Prop :=
  ∀ s t : State, Memory.wf s.mem → step s = .next t → Memory.wf t.mem

/-- R24: every polynomial register stays a normalized list of 1 to 512 coefficients. -/
def Obligations.PolyRegistersStayNormalized : Prop :=
  ∀ s t : State, s.PolysOk → step s = .next t → t.PolysOk

/-- R31, R286, R287: BUSY rules out DONE and ERR, and ERRCODE with ERRDETAIL stays a row of the table, 0 without an error;
the rows of the table are the 21 listed here, one for each error of the model. -/
def Obligations.StatusStaysConsistent : Prop :=
  (∀ s t : State, s.StatusOk → step s = .next t → t.StatusOk)
    ∧ ∀ e : Err, (e, e.code.toNat, e.detail.toNat) ∈
      ([(.noSegment, 1, 1), (.badMode, 1, 2), (.pastEnd, 1, 3), (.numericRange, 1, 4), (.alnumRange, 1, 5), (.eciLead, 1, 6)]
        ++ [(.zeroRemainder, 2, 1), (.sigmaConstant, 2, 2), (.rootCount, 2, 3), (.negativePosition, 2, 4)]
        ++ [(.zeroElement, 3, 1), (.notElement, 3, 2), (.zeroDivisor, 3, 3)]
        ++ [(.cwbufRange, 4, 1), (.rsLength, 4, 2), (.version, 4, 3), (.polyCapacity, 4, 4), (.sameDestination, 4, 5),
          (.operandRange, 4, 6)]
        ++ [(.undefinedOpcode, 5, 1), (.reservedBit, 5, 2)] : List (Err × Nat × Nat))

/-- R38, R247: the segment decoder holds nothing outside SEG.DECODE, and inside it stays within the bounds that make an
overflow of OUTBUF or SEGTAB impossible. -/
def Obligations.SegmentDecoderStaysInBounds : Prop :=
  (∀ s t : State, s.SegOk → step s = .next t → t.SegOk)
    ∧ ∀ s : State, s.SegOk → s.seg.nout ≤ 9830 ∧ s.seg.nseg ≤ 2730

/-- R27, R192, R196: the meaningful error locations stay nonzero and distinct, the other entries 0. -/
def Obligations.ErrorLocationsStayDistinct : Prop :=
  ∀ s t : State, s.RsOk → step s = .next t → t.RsOk

/-- R61, R62, R247: no step writes a byte outside CWBUF, OUTBUF and SEGTAB. -/
def Obligations.WritesStayInMappedMemory : Prop :=
  ∀ s t : State, s.SegOk → s.MemMapped → step s = .next t → t.MemMapped

/-! ### Reset -/

/-- R42: the value of every register after reset. -/
def Obligations.ResetValues : Prop :=
  State.reset.seq = .idle ∧ State.reset.statusWord = 0#32 ∧ State.reset.ctrlWord = 0#32 ∧ State.reset.curCmd = 0#32
    ∧ State.reset.curArg0 = 0#32 ∧ State.reset.curArg1 = 0#32 ∧ State.reset.curArg2 = 0#32
    ∧ State.reset.arg0 = 0#32 ∧ State.reset.arg1 = 0#32 ∧ State.reset.arg2 = 0#32
    ∧ State.reset.res0 = 0#32 ∧ State.reset.res1 = 0#32 ∧ State.reset.errCnt = 0#8
    ∧ (∀ k : Fin 255, State.reset.errLoc[k] = 0#8 ∧ State.reset.errMag[k] = 0#8)
    ∧ (∀ i : PReg, State.reset.getPR i = [0#8])
    ∧ (∀ a, State.reset.readByte a = Config.resetByte State.reset.epoch a)
    ∧ State.reset.irq = false ∧ Config.id = 0x51524631#32

/-- R321, R322: asserting RST, whatever the block is doing, abandons it and gives every piece of state its value of R42,
every byte of memory a fresh draw; asserting it while it is asserted changes nothing (the model's choice, log 6). While RST is
asserted every step keeps those values, whatever the host does: an access only takes its reply, a write a bus error
where it is not acceptable and none where it is. Releasing RST leaves the values of R42. The host's queue, the reply and the
count of draws are the model's own (log 2, log 4, log 6). -/
def Obligations.ResetAbandonsTheCommand : Prop :=
  (∀ (s : State) (rest : List HostOp), s.rst = false → s.hostQueue = .rst true :: rest → Answers (step s) fun t =>
      t = { State.reset with rst := true, epoch := s.epoch + 1, draws := s.draws, hostQueue := rest }
        ∧ (∀ a, t.readByte a = Config.resetByte (s.epoch + 1) a) ∧ t.statusWord = 0#32 ∧ t.irq = false)
    ∧ (∀ (s : State) (rest : List HostOp), s.rst = true → s.hostQueue = .rst true :: rest →
      step s = .next { s with hostQueue := rest })
    ∧ (∀ s t : State, s.HeldOk → step s = .next t → t.HeldOk)
    ∧ (∀ (s : State) (op : HostOp) (rest : List HostOp), s.HeldOk → s.rst = true → s.hostQueue = op :: rest →
      op.isAccess = true → ∃ r, step s = .next { s with hostQueue := rest, reply := some r }
        ∧ ∀ w off data, op = .write w off data → r = { busError := decide (place w off = none), data := 0#32 })
    ∧ ∀ (s : State) (rest : List HostOp), s.HeldOk → s.rst = true → s.hostQueue = .rst false :: rest →
      step s = .next { State.reset with epoch := s.epoch, draws := s.draws, hostQueue := rest, reply := s.reply }

/-! ### Whole-machine rules -/

/-- R25, R27, R34, R35, R37, R93, R291: no instruction writes OVR, CTRL, ARG0..ARG2 or the latches; polynomial registers, RS
arrays, RES0, RES1 and memories are written only by the instructions the spec lists, in the places it lists: a mode indicator
of a SEG.DECODE within bounds writes OUTBUF from the next output byte on and the next SEGTAB entry, and RES0 and RES1 only
where it ends the command. -/
def Obligations.InstructionsWriteOnlyTheirState : Prop :=
  ∀ (i : Instr) (s t : State), exec i s = .next t →
    SameShell s t ∧ SamePRExcept s t (prDestinations i) ∧ (writesRs i = false → SameRs s t)
      ∧ SameMemExcept s t (mayWrite i)
      ∧ (i.isMode = true → s.SegOk → s.segActive = true → SameMemExcept s t (segmentMayWrite s))
      ∧ (writesRes0 i = false → t.res0 = s.res0) ∧ (writesRes1 i = false → t.res1 = s.res1)
      ∧ (t.segActive = true → SameResults s t)

/-- R245, R291: a command that ends in an error has written nothing but STATUS; an error inside SEG.DECODE zeroes RES0 and
RES1 and leaves the output emitted so far. -/
def Obligations.ErrorWritesOnlyStatus : Prop :=
  ∀ (i : Instr) (s t : State), s.err = false → exec i s = .next t → t.err = true →
    if i.isMode then
      ∃ e, Failed e s t ∧ t.res0 = 0#32 ∧ t.res1 = 0#32 ∧ SameRs s t ∧ SamePR s t
        ∧ SameMemExcept s t (fun a => 0x04000 + s.seg.nout ≤ a)
    else ∃ e, FailedClean e s t

/-! ### Control commands -/

/-- R271, R272: NOP writes nothing but the completion; CLR clears the polynomial registers, the RS state and the results
and keeps the memories. -/
def Obligations.NopAndClrCommands : Prop :=
  ∀ s : State,
    Answers (exec .nop s) (fun t => CompletedResults s t s.res0 s.res1)
      ∧ Answers (exec .clr s) (fun t => Completed s t ∧ (∀ i : PReg, t.getPR i = [0#8]) ∧ t.errCnt = 0#8
          ∧ (∀ k : Fin 255, t.errLoc[k] = 0#8 ∧ t.errMag[k] = 0#8) ∧ t.res0 = 0#32 ∧ t.res1 = 0#32 ∧ SameMem s t)

/-! ### GF(256) -/

/-- R121, R122: EXP follows the doubling rule, and LOG is its inverse on 1..255 with LOG[0] reading 0. -/
def Obligations.TablesFollowTheDoublingRule : Prop :=
  (∀ i, i ≤ 255 → (gfExp i).toNat = alphaPow i)
    ∧ (∀ a : Byte, a ≠ 0#8 → logTable a < 255 ∧ gfExp (logTable a) = a)
    ∧ (∀ i, i < 255 → logTable (gfExp i) = i) ∧ logTable 0#8 = 0

/-- 40_gf256.md section 4: inverses, commutativity, associativity, distributivity; no inverse or logarithm of 0. -/
def Obligations.FieldLaws : Prop :=
  (∀ a : Byte, a ≠ 0#8 → ∃ b, gfInv a = .ok b ∧ b ≠ 0#8 ∧ gfMul a b = 1#8)
    ∧ gfInv 0#8 = .error .zeroElement ∧ gfLog 0#8 = .error .zeroElement
    ∧ (∀ a b : Byte, gfMul a b = gfMul b a)
    ∧ (∀ a b c : Byte, gfMul (gfMul a b) c = gfMul a (gfMul b c))
    ∧ (∀ a b c : Byte, gfMul a (gfAdd b c) = gfAdd (gfMul a b) (gfMul a c))

/-- 00_scope.md section 2: the product by logarithms is the carry-less product reduced by 0x11D. -/
def Obligations.GfMulIsTheReducedProduct : Prop :=
  ∀ a b : Byte, (gfMul a b).toNat = reducedProduct 8 a.toNat b.toNat

/-- R129 to R133: for every operand the result in RES0 or the error, RES1 and everything else unchanged. -/
def Obligations.GfCommands : Prop :=
  ∀ s : State,
    let a : Byte := s.curArg0.setWidth 8
    let b : Byte := s.curArg1.setWidth 8
    Answers (exec .gfAdd s) (fun t =>
      if s.curArg0.toNat < 256 ∧ s.curArg1.toNat < 256 then CompletedResults s t (s.curArg0 ^^^ s.curArg1) s.res1
      else FailedClean .notElement s t)
    ∧ Answers (exec .gfMul s) (fun t =>
      if s.curArg0.toNat < 256 ∧ s.curArg1.toNat < 256 then
        CompletedResults s t
          (if a = 0#8 ∨ b = 0#8 then 0#32 else Word.ofByte (gfExp ((logTable a + logTable b) % 255))) s.res1
      else FailedClean .notElement s t)
    ∧ Answers (exec .gfInv s) (fun t =>
      if 256 ≤ s.curArg0.toNat then FailedClean .notElement s t
      else if s.curArg0 = 0#32 then FailedClean .zeroElement s t
      else CompletedResults s t (Word.ofByte (gfExp (255 - logTable a))) s.res1)
    ∧ Answers (exec .gfExp s) (fun t =>
      if 256 ≤ s.curArg0.toNat then FailedClean .operandRange s t
      else CompletedResults s t (Word.ofByte (gfExp s.curArg0.toNat)) s.res1)
    ∧ Answers (exec .gfLog s) (fun t =>
      if 256 ≤ s.curArg0.toNat then FailedClean .notElement s t
      else if s.curArg0 = 0#32 then FailedClean .zeroElement s t
      else CompletedResults s t (BitVec.ofNat 32 (logTable a)) s.res1)

/-! ### Polynomial functions -/

/-- R141, R145, R147, R149, R150: what norm, mono, padd, pscale and pshift do to every coefficient; each answers a
normalized list. -/
def Obligations.CoefficientsOfSumScaleShift : Prop :=
  (∀ c : List Byte, Normalized (norm c) ∧ (Normalized c → norm c = c) ∧ ∀ d, coef (norm c) d = coef c d)
    ∧ (∀ n c d, Normalized (mono n c) ∧ coef (mono n c) d = if d = n then c else 0#8)
    ∧ (∀ a b d, Normalized a → Normalized b →
        Normalized (padd a b) ∧ coef (padd a b) d = coef a d ^^^ coef b d)
    ∧ (∀ a k d, Normalized a → Normalized (pscale a k) ∧ coef (pscale a k) d = gfMul (coef a d) k)
    ∧ (∀ a n c d, Normalized a →
        Normalized (pshift a n c) ∧ coef (pshift a n c) d = if d < n then 0#8 else gfMul (coef a (d - n)) c)

/-- R148: each coefficient of a product is the sum over all pairs of degrees; the degree of a product of nonzero
polynomials is the sum of the degrees. -/
def Obligations.CoefficientsOfProduct : Prop :=
  ∀ a b, Normalized a → Normalized b →
    Normalized (pmul a b)
      ∧ (∀ k, coef (pmul a b) k = xorSum (fun i => gfMul (coef a i) (coef b (k - i))) (k + 1))
      ∧ (a ≠ [0#8] → b ≠ [0#8] → deg (pmul a b) = deg a + deg b)

/-- R151: dividend = quotient · divisor + remainder, the remainder of lower degree than the divisor or zero; a zero
divisor is ARITHMETIC 3. -/
def Obligations.DivisionIdentity : Prop :=
  (∀ a b, Normalized a → Normalized b → b ≠ [0#8] →
      ∃ q r, pdiv a b = .ok (q, r) ∧ Normalized q ∧ Normalized r ∧ a = padd (pmul q b) r
        ∧ (deg r < deg b ∨ r = [0#8]))
    ∧ ∀ a, pdiv a [0#8] = .error .zeroDivisor

/-- R152 and 41_poly.md section 3: evaluation is the sum of c_k·x^k, with the fast paths at 0 and 1, and respects sums and
products. -/
def Obligations.EvaluationLaws : Prop :=
  (∀ p x, Normalized p → peval p x = xorSum (fun k => gfMul (coef p k) (gfPow x k)) p.length)
    ∧ (∀ p, Normalized p → peval p 0#8 = coef p 0 ∧ peval p 1#8 = xorSum (coef p) p.length)
    ∧ (∀ a b x, Normalized a → Normalized b →
        peval (padd a b) x = peval a x ^^^ peval b x ∧ peval (pmul a b) x = gfMul (peval a x) (peval b x))

/-! ### Polynomial commands -/

/-- R153: POLY.LOAD normalizes the bytes, writes PR[D] and answers the degree, or raises ARGUMENT 6, then ARGUMENT 1. -/
def Obligations.PolyLoadCommand : Prop :=
  ∀ (d : PReg) (s : State), Answers (exec (.polyLoad d) s) fun t =>
    let k := s.curArg1.toNat
    let a := s.curArg0.toNat
    if k < 1 ∨ 512 < k then FailedClean .operandRange s t
    else if 4096 < a + k then FailedClean .cwbufRange s t
    else
      let p := norm (s.readBytes (0x01000 + a) k)
      CompletedPoly s t d p (BitVec.ofNat 32 (deg p)) s.res1

/-- R154: the stored bytes are those at CWBUF[ARG0] and up, and no other byte changes. -/
def Obligations.PolyStoreCommand : Prop :=
  ∀ (a : PReg) (s : State), Answers (exec (.polyStore a) s) fun t =>
    let p := s.getPR a
    let off := s.curArg0.toNat
    if 4096 < off + p.length then FailedClean .cwbufRange s t
    else Completed s t ∧ t.readBytes (0x01000 + off) p.length = p
      ∧ SameMemExcept s t (fun x => 0x01000 + off ≤ x ∧ x < 0x01000 + off + p.length)
      ∧ t.res0 = BitVec.ofNat 32 p.length ∧ t.res1 = s.res1 ∧ SameRs s t ∧ SamePR s t

/-- R155, R158, R159: POLY.MONO, POLY.SCALE and POLY.SHIFT write PR[D] alone, or raise the first error of their lists. -/
def Obligations.PolyMonoScaleShiftCommands : Prop :=
  ∀ (d a : PReg) (s : State),
    Answers (exec (.polyMono d) s) (fun t =>
      if 511 < s.curArg0.toNat then FailedClean .operandRange s t
      else if 255 < s.curArg1.toNat then FailedClean .notElement s t
      else CompletedPoly s t d (mono s.curArg0.toNat (s.curArg1.setWidth 8)) s.res0 s.res1)
    ∧ Answers (exec (.polyScale d a) s) (fun t =>
      if 255 < s.curArg0.toNat then FailedClean .notElement s t
      else CompletedPoly s t d (pscale (s.getPR a) (s.curArg0.setWidth 8)) s.res0 s.res1)
    ∧ Answers (exec (.polyShift d a) s) (fun t =>
      let p := pshift (s.getPR a) s.curArg0.toNat (s.curArg1.setWidth 8)
      if 511 < s.curArg0.toNat then FailedClean .operandRange s t
      else if 255 < s.curArg1.toNat then FailedClean .notElement s t
      else if 512 < p.length then FailedClean .polyCapacity s t
      else CompletedPoly s t d p s.res0 s.res1)

/-- R156, R157, R160, R293: sources are read before a destination is written, so a destination may be a source. -/
def Obligations.PolyAddMulDivCommands : Prop :=
  ∀ (d e a b : PReg) (s : State),
    Answers (exec (.polyAdd d a b) s) (fun t => CompletedPoly s t d (padd (s.getPR a) (s.getPR b)) s.res0 s.res1)
    ∧ Answers (exec (.polyMul d a b) s) (fun t =>
      let p := pmul (s.getPR a) (s.getPR b)
      if 512 < p.length then FailedClean .polyCapacity s t else CompletedPoly s t d p s.res0 s.res1)
    ∧ (s.PolysOk → Answers (exec (.polyDiv d e a b) s) (fun t =>
      if d = e then FailedClean .sameDestination s t
      else if s.getPR b = [0#8] then FailedClean .zeroDivisor s t
      else ∃ q r, pdiv (s.getPR a) (s.getPR b) = .ok (q, r) ∧ Completed s t ∧ t.getPR d = q ∧ t.getPR e = r
        ∧ SamePRExcept s t [d, e] ∧ SameResults s t ∧ SameRs s t ∧ SameMem s t))

/-- R161, R162, R163: POLY.EVAL, POLY.DEG and POLY.COEF write RES0 (POLY.DEG also RES1) and no register else. -/
def Obligations.PolyEvalDegCoefCommands : Prop :=
  ∀ (a : PReg) (s : State),
    Answers (exec (.polyEval a) s) (fun t =>
      if 255 < s.curArg0.toNat then FailedClean .notElement s t
      else CompletedResults s t (Word.ofByte (peval (s.getPR a) (s.curArg0.setWidth 8))) s.res1)
    ∧ Answers (exec (.polyDeg a) s) (fun t =>
      CompletedResults s t (BitVec.ofNat 32 (deg (s.getPR a))) (if s.getPR a = [0#8] then 1#32 else 0#32))
    ∧ Answers (exec (.polyCoef a) s) (fun t =>
      CompletedResults s t (Word.ofByte (coef (s.getPR a) s.curArg0.toNat)) s.res1)

/-! ### Reed-Solomon -/

/-- R181, R184, R185: the coefficient of x^i is the received word at α^i, and RES0 is 1 exactly when all are zero. -/
def Obligations.RsSyndCommand : Prop :=
  ∀ (d : PReg) (s : State), Answers (exec (.rsSynd d) s) fun t =>
    let a := s.curArg0.toNat
    let n := s.curArg1.toNat
    let twoS := s.curArg2.toNat
    if n < 1 ∨ 255 < n then FailedClean .rsLength s t
    else if n < twoS then FailedClean .rsLength s t
    else if 4096 < a + n then FailedClean .cwbufRange s t
    else
      let recv := norm (s.readBytes (0x01000 + a) n)
      Completed s t ∧ Normalized (t.getPR d)
        ∧ (∀ i, coef (t.getPR d) i = if i < twoS then peval recv (gfExp i) else 0#8)
        ∧ (t.res0 = 1#32 ↔ ∀ i < twoS, peval recv (gfExp i) = 0#8) ∧ (t.res0 = 0#32 ∨ t.res0 = 1#32)
        ∧ t.res1 = s.res1 ∧ SamePRExcept s t [d] ∧ SameRs s t ∧ SameMem s t

/-- 42_reed_solomon.md section 1 (R186 to R190): the key equation, for every syndrome polynomial a host can load. The
locator's constant term is 1 and the degrees are those of the stop condition. Up to degree R the evaluator agrees with locator
times syndrome below x^R; above it, where R186 swaps, it is locator times x^R plus a multiple of the syndrome polynomial. -/
def Obligations.EuclidSolvesTheKeyEquation : Prop :=
  ∀ (S : Poly) (R : Nat) (sigma omega : Poly), Normalized S →
    euclid Config.euclidStop S R = .ok (sigma, omega) →
      Normalized sigma ∧ Normalized omega ∧ coef sigma 0 = 1#8 ∧ 2 * deg omega < R
        ∧ (deg S ≤ R → 2 * deg sigma ≤ R ∧ ∀ d, d < R → coef (pmul sigma S) d = coef omega d)
        ∧ (R < deg S → 2 * deg sigma + R ≤ 2 * deg S
          ∧ ∃ u, Normalized u ∧ omega = padd (pmul sigma (mono R 1#8)) (pmul u S))

/-- 42_reed_solomon.md sections 1 and 3 (R189, R191, R202): with R ≥ 1 Euclid never meets a zero remainder, with R = 0 it
always does, and it raises no other error than CHECKSUM 1 and 2. -/
def Obligations.EuclidMeetsZeroRemainderOnlyAtZero : Prop :=
  ∀ S : Poly, Normalized S →
    (∀ R, 1 ≤ R → euclid Config.euclidStop S R ≠ .error .zeroRemainder)
      ∧ euclid Config.euclidStop S 0 = .error .zeroRemainder
      ∧ ∀ R e, euclid Config.euclidStop S R = .error e → e = .zeroRemainder ∨ e = .sigmaConstant

/-- R192: the inverses of the first deg(sigma) roots among 1..255, in rising order of the roots; CHECKSUM 3 if there are
fewer. -/
def Obligations.ChienFindsTheRoots : Prop :=
  ∀ sigma : Poly,
    let roots := ((List.range 255).map fun i => BitVec.ofNat 8 (i + 1)).filter fun x => peval sigma x = 0#8
    chien sigma =
      if deg sigma ≤ roots.length then .ok ((roots.take (deg sigma)).map fun x => gfExp (255 - logTable x))
      else .error .rootCount

/-- 42_reed_solomon.md section 1 (R193): for distinct nonzero locations each magnitude, times the product over the other
locations, is the evaluator at the location's inverse. -/
def Obligations.ForneyGivesTheMagnitudes : Prop :=
  ∀ (omega : Poly) (L : List Byte), L.Nodup → 0#8 ∉ L →
    ∃ M, forney omega L = .ok M ∧ M.length = L.length
      ∧ ∀ k, k < L.length → ∃ xinv, gfMul (L.getD k 0#8) xinv = 1#8
          ∧ gfMul (M.getD k 0#8) (((List.range L.length).filter (· ≠ k)).foldl
              (fun den j => gfMul den (1#8 ^^^ gfMul (L.getD j 0#8) xinv)) 1#8) = peval omega xinv

/-- R191, R194, R196: RS.EUCLID, RS.CHIEN and RS.FORNEY store what euclid, chien and forney answer, or raise their
error. -/
def Obligations.RsEuclidChienForneyCommands : Prop :=
  (∀ (d e a : PReg) (s : State), Answers (exec (.rsEuclid d e a) s) fun t =>
      if d = e then FailedClean .sameDestination s t
      else if 511 < s.curArg0.toNat then FailedClean .operandRange s t
      else match euclid Config.euclidStop (s.getPR a) s.curArg0.toNat with
        | .error err => FailedClean err s t
        | .ok (sigma, omega) => Completed s t ∧ t.getPR d = sigma ∧ t.getPR e = omega ∧ SamePRExcept s t [d, e]
            ∧ SameResults s t ∧ SameRs s t ∧ SameMem s t)
    ∧ (∀ (a : PReg) (s : State), Answers (exec (.rsChien a) s) fun t =>
      match chien (s.getPR a) with
      | .error err => FailedClean err s t
      | .ok L => Completed s t ∧ t.errCnt.toNat = L.length
          ∧ (∀ k : Fin 255, t.errLoc[k] = L.getD k.val 0#8 ∧ t.errMag[k] = 0#8)
          ∧ t.res0 = BitVec.ofNat 32 L.length ∧ t.res1 = s.res1 ∧ SamePR s t ∧ SameMem s t)
    ∧ (∀ (a : PReg) (s : State), s.RsOk → Answers (exec (.rsForney a) s) fun t =>
      ∃ M, forney (s.getPR a) (s.errLoc.toList.take s.errCnt.toNat) = .ok M ∧ Completed s t
        ∧ t.errCnt = s.errCnt ∧ t.errLoc = s.errLoc
        ∧ (∀ k : Fin 255, t.errMag[k] = if k.val < s.errCnt.toNat then M.getD k.val 0#8 else s.errMag[k])
        ∧ t.res0 = Word.ofByte s.errCnt ∧ t.res1 = s.res1 ∧ SamePR s t ∧ SameMem s t)

/-- R195, R197: with a location whose logarithm is n or more nothing is written; otherwise the byte at
`n − 1 − log(ERRLOC[k])` of the block is XORed with ERRMAG[k] for every k below ERRCNT, and no other byte changes. -/
def Obligations.RsApplyCommand : Prop :=
  ∀ s : State, s.RsOk → Answers (exec .rsApply s) fun t =>
    let a := s.curArg0.toNat
    let n := s.curArg1.toNat
    if n < 1 ∨ 255 < n then FailedClean .rsLength s t
    else if 4096 < a + n then FailedClean .cwbufRange s t
    else if ∃ X ∈ s.locations, n ≤ logTable X then FailedClean .negativePosition s t
    else Completed s t
      ∧ (∀ k : Fin 255, k.val < s.errCnt.toNat →
          t.readByte (0x01000 + a + (n - 1 - logTable s.errLoc[k]))
            = s.readByte (0x01000 + a + (n - 1 - logTable s.errLoc[k])) ^^^ s.errMag[k])
      ∧ SameMemExcept s t (fun x => ∃ X ∈ s.locations, x = 0x01000 + a + (n - 1 - logTable X))
      ∧ t.res0 = Word.ofByte s.errCnt ∧ t.res1 = s.res1 ∧ SameRs s t ∧ SamePR s t

/-- R198: the whole decoder on the block at CWBUF[ARG0], in place, over the stage functions. -/
def Obligations.RsDecodeCommand : Prop :=
  ∀ s : State, Answers (exec .rsDecode s) fun t =>
    let a := s.curArg0.toNat
    let n := s.curArg1.toNat
    let twoS := s.curArg2.toNat
    let S := (syndrome (norm (s.readBytes (0x01000 + a) n)) twoS).1
    if n < 1 ∨ 255 < n then FailedClean .rsLength s t
    else if n < twoS then FailedClean .rsLength s t
    else if 4096 < a + n then FailedClean .cwbufRange s t
    else if S = [0#8] then
      Completed s t ∧ t.errCnt = 0#8 ∧ (∀ k : Fin 255, t.errLoc[k] = 0#8 ∧ t.errMag[k] = 0#8)
        ∧ t.res0 = 0#32 ∧ t.res1 = 1#32 ∧ SamePR s t ∧ SameMem s t
    else match euclid Config.euclidStop S twoS with
      | .error e => FailedClean e s t
      | .ok (sigma, omega) =>
        match chien sigma with
        | .error e => FailedClean e s t
        | .ok L =>
          if ∃ X ∈ L, n ≤ logTable X then FailedClean .negativePosition s t
          else ∃ M, forney omega L = .ok M ∧ Completed s t
            ∧ (∀ k, k < L.length →
                t.readByte (0x01000 + a + (n - 1 - logTable (L.getD k 0#8)))
                  = s.readByte (0x01000 + a + (n - 1 - logTable (L.getD k 0#8))) ^^^ M.getD k 0#8)
            ∧ SameMemExcept s t (fun x => ∃ X ∈ L, x = 0x01000 + a + (n - 1 - logTable X))
            ∧ t.errCnt.toNat = L.length
            ∧ (∀ k : Fin 255, t.errLoc[k] = L.getD k.val 0#8 ∧ t.errMag[k] = M.getD k.val 0#8)
            ∧ t.res0 = BitVec.ofNat 32 L.length ∧ t.res1 = 0#32 ∧ SamePR s t

/-- R199 (derived): RS.STAGES over p0, p1, p2 ends with the error RS.DECODE ends with and the same memory; when errors were
corrected, also with the same ERRCNT, ERRLOC and ERRMAG. -/
def Obligations.RsDecodeAgreesWithTheStages : Prop :=
  ∀ s : State, s.err = false → Answers (exec .rsDecode s) fun t =>
    let u := s.rsStages s.curArg0 s.curArg1 s.curArg2
    u.err = t.err ∧ u.errCode = t.errCode ∧ u.errDetail = t.errDetail ∧ SameMem t u
      ∧ (t.err = false → t.res1 = 0#32 → u.errCnt = t.errCnt ∧ u.errLoc = t.errLoc ∧ u.errMag = t.errMag)

/-! ### Segment decoder commands -/

/-- 43_segment.md section 5 with the tables of sections 2 and 3 (R233, R238, R241, general knowledge in the spec; log 10):
SEG.CCB, SEG.ALNUM and SEG.KANJI. -/
def Obligations.SegTableCommands : Prop :=
  ∀ s : State,
    Answers (exec .segCcb s) (fun t =>
      let m := s.curArg0.toNat
      let v := s.curArg1.toNat
      let width (low mid high : Nat) : Nat := if v ≤ 9 then low else if v ≤ 26 then mid else high
      if 15 < m then FailedClean .operandRange s t
      else if v < 1 ∨ 40 < v then FailedClean .version s t
      else if m = 1 then CompletedResults s t (BitVec.ofNat 32 (width 10 12 14)) s.res1
      else if m = 2 then CompletedResults s t (BitVec.ofNat 32 (width 9 11 13)) s.res1
      else if m = 4 then CompletedResults s t (BitVec.ofNat 32 (width 8 16 16)) s.res1
      else if m = 8 then CompletedResults s t (BitVec.ofNat 32 (width 8 10 12)) s.res1
      else FailedClean .badMode s t)
    ∧ Answers (exec .segAlnum s) (fun t =>
      if 45 ≤ s.curArg0.toNat then FailedClean .alnumRange s t
      else CompletedResults s t
        (BitVec.ofNat 32 ("0123456789ABCDEFGHIJKLMNOPQRSTUVWXYZ $%*+-./:".toList.getD s.curArg0.toNat ' ').toNat) s.res1)
    ∧ Answers (exec .segKanji s) (fun t =>
      let v := s.curArg0.toNat
      if 0x1FFF < v then FailedClean .operandRange s t
      else CompletedResults s t (BitVec.ofNat 32 (v / 0xC0 * 256 + v % 0xC0 + if v < 5952 then 0x8140 else 0xC140)) s.res1
        ∧ ((0x8140 ≤ t.res0.toNat ∧ t.res0.toNat ≤ 0x9FFF) ∨ (0xE040 ≤ t.res0.toNat ∧ t.res0.toNat ≤ 0xEBBF)))

/-- R251: SEG.ECI parses a designator in a 24-bit window, and the bitstream parse gives the same value on the same bits. -/
def Obligations.SegEciCommand : Prop :=
  ∀ s : State,
    Answers (exec .segEci s) (fun t =>
      let w := s.curArg0.toNat
      let f := w / 65536
      if 0xFFFFFF < w then FailedClean .operandRange s t
      else if f < 128 then CompletedResults s t (BitVec.ofNat 32 f) 1#32
      else if f < 192 then CompletedResults s t (BitVec.ofNat 32 ((f - 128) * 256 + w / 256 % 256)) 2#32
      else if f < 224 then CompletedResults s t (BitVec.ofNat 32 ((f - 192) * 65536 + w % 65536)) 3#32
      else FailedClean .eciLead s t)
    ∧ ∀ pos w, w ≤ 0xFFFFFF → s.Holds pos (bitsOf 24 w) →
        s.eciDesignator pos =
          (let f := w / 65536
          if f < 128 then .ok (f, pos + 8)
          else if f < 192 then .ok ((f - 128) * 256 + w / 256 % 256, pos + 16)
          else if f < 224 then .ok ((f - 192) * 65536 + w % 65536, pos + 24)
          else .error .eciLead)

/-- R221, R231: SEG.DECODE raises ARGUMENT 3 or ARGUMENT 1, or starts with cursor, counts and designator afresh and changes
nothing else; that it is then still BUSY, its mode indicators run by the steps that follow, is the model's choice (log 1). -/
def Obligations.SegDecodeStarts : Prop :=
  ∀ s : State, Answers (exec .segDecode s) fun t =>
    if s.curArg2.toNat < 1 ∨ 40 < s.curArg2.toNat then FailedClean .version s t
    else if 4096 < s.curArg0.toNat + s.curArg1.toNat then FailedClean .cwbufRange s t
    else t = { s with segActive := true, seg := { pos := 0, nout := 0, nseg := 0, eci := none } }

/-! ### Mode indicators -/

/-- 43_segment.md R230, R233 to R235 and R246: a numeric segment whose bits encode the digits `ds` decodes to their ASCII
codes, with its record. -/
def Obligations.NumericSegmentDecodes : Prop :=
  ∀ (s : State) (ds : List Nat), (∀ d ∈ ds, d < 10) → ds.length < 2 ^ ccb .numeric s.curArg2.toNat →
    s.Holds (s.seg.pos + 4) (bitsOf (ccb .numeric s.curArg2.toNat) ds.length ++ numericBits ds) →
    s.seg.nout + ds.length ≤ 12288 → s.seg.nseg < 3072 →
      Answers (exec .modeNumeric s) fun t =>
        SegmentDone s t 1 ds.length none (ccb .numeric s.curArg2.toNat + (numericBits ds).length)
          (ds.map fun d => BitVec.ofNat 8 (0x30 + d))

/-- 43_segment.md R230, R233, R236 to R238 and R246: an alphanumeric segment whose bits encode the indices `is` decodes to
the characters of the 45-symbol table. -/
def Obligations.AlphanumericSegmentDecodes : Prop :=
  ∀ (s : State) (is : List Nat), (∀ i ∈ is, i < 45) → is.length < 2 ^ ccb .alphanumeric s.curArg2.toNat →
    s.Holds (s.seg.pos + 4) (bitsOf (ccb .alphanumeric s.curArg2.toNat) is.length ++ alnumBits is) →
    s.seg.nout + is.length ≤ 12288 → s.seg.nseg < 3072 →
      Answers (exec .modeAlphanumeric s) fun t =>
        SegmentDone s t 2 is.length none (ccb .alphanumeric s.curArg2.toNat + (alnumBits is).length)
          (is.map fun i =>
            BitVec.ofNat 8 ("0123456789ABCDEFGHIJKLMNOPQRSTUVWXYZ $%*+-./:".toList.getD i ' ').toNat)

/-- 43_segment.md R230, R233, R239, R243 and R246: a byte segment copies its bytes and its record carries the ECI
designator in force. -/
def Obligations.ByteSegmentDecodes : Prop :=
  ∀ (s : State) (bs : List Byte), bs.length < 2 ^ ccb .byte s.curArg2.toNat →
    s.Holds (s.seg.pos + 4) (bitsOf (ccb .byte s.curArg2.toNat) bs.length ++ bs.flatMap fun b => bitsOf 8 b.toNat) →
    s.seg.nout + bs.length ≤ 12288 → s.seg.nseg < 3072 →
      Answers (exec .modeByte s) fun t =>
        SegmentDone s t 4 bs.length s.seg.eci (ccb .byte s.curArg2.toNat + 8 * bs.length) bs

/-- 43_segment.md R230, R233, R240, R241 and R246: a Kanji segment gives two bytes a character, the high one first. -/
def Obligations.KanjiSegmentDecodes : Prop :=
  ∀ (s : State) (vs : List Nat), (∀ v ∈ vs, v < 8192) → vs.length < 2 ^ ccb .kanji s.curArg2.toNat →
    s.Holds (s.seg.pos + 4) (bitsOf (ccb .kanji s.curArg2.toNat) vs.length ++ vs.flatMap fun v => bitsOf 13 v) →
    s.seg.nout + 2 * vs.length ≤ 12288 → s.seg.nseg < 3072 →
      Answers (exec .modeKanji s) fun t =>
        SegmentDone s t 8 vs.length none (ccb .kanji s.curArg2.toNat + 13 * vs.length)
          (vs.flatMap fun v =>
            let c := v / 0xC0 * 256 + v % 0xC0 + if v < 5952 then 0x8140 else 0xC140
            [BitVec.ofNat 8 (c / 256), BitVec.ofNat 8 c])

/-- 43_segment.md R223, R232, R242 and R243: a designator of one, two or three bytes replaces the one in force, with no record
and no output; the lead byte 111xxxxx is FORMAT 6, and a first byte, or the bytes a lead byte asks for, past the end of the
input are FORMAT 3. -/
def Obligations.EciDesignatorDecodes : Prop :=
  ∀ s : State,
    (∀ (v : BitVec 21) (bits : List Bool),
      ((v.toNat < 2 ^ 7 ∧ bits = false :: bitsOf 7 v.toNat)
        ∨ (v.toNat < 2 ^ 14 ∧ bits = true :: false :: bitsOf 14 v.toNat)
        ∨ bits = true :: true :: false :: bitsOf 21 v.toNat) →
      s.Holds (s.seg.pos + 4) bits →
        exec .modeEci s = .next { s with seg := { s.seg with pos := s.seg.pos + 4 + bits.length, eci := some v } })
    ∧ (∀ tail : Nat, s.Holds (s.seg.pos + 4) (true :: true :: true :: bitsOf 5 tail) →
        Answers (exec .modeEci s) fun t =>
          Failed .eciLead s t ∧ t.res0 = 0#32 ∧ t.res1 = 0#32 ∧ SameRs s t ∧ SamePR s t ∧ SameMem s t)
    ∧ ((s.avail (s.seg.pos + 4) < 8
          ∨ (∃ tail, s.Holds (s.seg.pos + 4) (true :: false :: bitsOf 6 tail) ∧ s.avail (s.seg.pos + 12) < 8)
          ∨ ∃ tail, s.Holds (s.seg.pos + 4) (true :: true :: false :: bitsOf 5 tail) ∧ s.avail (s.seg.pos + 12) < 16) →
        Answers (exec .modeEci s) fun t =>
          Failed .pastEnd s t ∧ t.res0 = 0#32 ∧ t.res1 = 0#32 ∧ SameRs s t ∧ SamePR s t ∧ SameMem s t)

/-- R227, R244: a terminator completes SEG.DECODE with the number of records and of output bytes, or with FORMAT 1 when no
segment was produced; it writes no memory. -/
def Obligations.TerminatorEndsTheDecode : Prop :=
  ∀ s : State, Answers (exec .modeTerminator s) fun t =>
    if s.seg.nseg = 0 then
      Failed .noSegment s t ∧ t.res0 = 0#32 ∧ t.res1 = 0#32 ∧ SameRs s t ∧ SamePR s t ∧ SameMem s t
    else CompletedResults s t (BitVec.ofNat 32 s.seg.nseg) (BitVec.ofNat 32 s.seg.nout)

/-- R223, R234, R236, R239, R240, R245: the errors of a data segment. A count field past the end is FORMAT 3; each group is
FORMAT 3 past the end, FORMAT 4 or 5 out of range; and an error inside the characters keeps in OUTBUF exactly the bytes of the
good groups before it, with no record. -/
def Obligations.SegmentErrorsKeepThePrefix : Prop :=
  ∀ s : State,
    (∀ (i : Instr) (m : SegMode),
      (i, m) ∈ [(.modeNumeric, .numeric), (.modeAlphanumeric, .alphanumeric), (.modeByte, .byte), (.modeKanji, .kanji)] →
      (s.avail (s.seg.pos + 4) < ccb m s.curArg2.toNat → Answers (exec i s) fun t =>
        Failed .pastEnd s t ∧ t.res0 = 0#32 ∧ t.res1 = 0#32 ∧ SameRs s t ∧ SamePR s t ∧ SameMem s t)
      ∧ ∀ count out e, s.readField (s.seg.pos + 4) (ccb m s.curArg2.toNat) = .ok count →
        s.segChars m count (s.seg.pos + 4 + ccb m s.curArg2.toNat) = { out := out, last := .error e } →
        Answers (exec i s) fun t =>
          Failed e s t ∧ t.res0 = 0#32 ∧ t.res1 = 0#32 ∧ SameRs s t ∧ SamePR s t
            ∧ t.readBytes (0x04000 + s.seg.nout) out.length = out
            ∧ SameMemExcept s t (fun a => 0x04000 + s.seg.nout ≤ a ∧ a < 0x04000 + s.seg.nout + out.length))
    ∧ (∀ (m : SegMode) (gs : List Nat) (rest pos : Nat) (e : Err), (∀ g ∈ gs, g < groupLimit m) → 0 < rest →
      s.Holds pos (gs.flatMap (bitsOf (groupWidth m))) → s.groupFails m rest (pos + groupWidth m * gs.length) e →
        s.segChars m (groupSize m * gs.length + rest) pos = { out := gs.flatMap (groupBytes m), last := .error e })
    ∧ (∀ (i : Instr) (m : SegMode) (gs : List Nat) (rest : Nat) (e : Err),
      (i, m) ∈ [(.modeNumeric, .numeric), (.modeAlphanumeric, .alphanumeric), (.modeByte, .byte), (.modeKanji, .kanji)] →
      (∀ g ∈ gs, g < groupLimit m) → 0 < rest → groupSize m * gs.length + rest < 2 ^ ccb m s.curArg2.toNat →
      s.Holds (s.seg.pos + 4) (bitsOf (ccb m s.curArg2.toNat) (groupSize m * gs.length + rest)
        ++ gs.flatMap (bitsOf (groupWidth m))) →
      s.groupFails m rest (s.seg.pos + 4 + ccb m s.curArg2.toNat + groupWidth m * gs.length) e →
        Answers (exec i s) fun t =>
          Failed e s t ∧ t.res0 = 0#32 ∧ t.res1 = 0#32 ∧ SameRs s t ∧ SamePR s t
            ∧ t.readBytes (0x04000 + s.seg.nout) (gs.flatMap (groupBytes m)).length = gs.flatMap (groupBytes m)
            ∧ SameMemExcept s t (fun a => 0x04000 + s.seg.nout ≤ a
              ∧ a < 0x04000 + s.seg.nout + (gs.flatMap (groupBytes m)).length))
    ∧ (∀ pos, s.rawByte pos =
        if s.avail pos < 8 then .error .pastEnd else .ok [BitVec.ofNat 8 (s.streamField pos 8)])
    ∧ (∀ pos, s.kanjiPair pos =
        if s.avail pos < 13 then .error .pastEnd else .ok (groupBytes .kanji (s.streamField pos 13)))
    ∧ (∀ pos w k, (w, k) ∈ [(10, 3), (7, 2), (4, 1)] → s.numericGroup pos w k =
        if s.avail pos < w then .error .pastEnd
        else if 10 ^ k ≤ s.streamField pos w then .error .numericRange
        else .ok (digits k (s.streamField pos w)))
    ∧ (∀ pos, s.alnumPair pos =
        if s.avail pos < 11 then .error .pastEnd
        else if 2025 ≤ s.streamField pos 11 then .error .alnumRange
        else .ok [alnumTable.getD (s.streamField pos 11 / 45) 0#8, alnumTable.getD (s.streamField pos 11 % 45) 0#8])
    ∧ ∀ pos, s.alnumSingle pos =
        if s.avail pos < 6 then .error .pastEnd
        else if 45 ≤ s.streamField pos 6 then .error .alnumRange
        else .ok [alnumTable.getD (s.streamField pos 6) 0#8]

/-! ### The host's accesses -/

/-- R63, R65, R66: an access gets a bus error exactly when it is misaligned, touches an unmapped byte, or is a narrow
access to a register; then nothing changes and a read returns 0, while IDLE or BUSY, RST asserted or not (log 6; that a
write gets it while BUSY too, or where its target is read-only, is the model's reading of R65 beside R332 and R29, log 7).
The 0 in the reply to a write and the count of accesses let in are the model's own (log 2, log 3). -/
def Obligations.BusErrorsChangeNothing : Prop :=
  (∀ (w : Width) (off : Offset), place w off = none ↔
      off.toNat % w.bytes ≠ 0 ∨ (∃ j, j < w.bytes ∧ ¬ MappedByte (off.toNat + j)) ∨ (off.toNat ≤ 0x00027 ∧ w ≠ .w32))
    ∧ ∀ (s : State) (w : Width) (off : Offset) (data : Word) (rest : List HostOp), s.hostMayMove = true →
        (s.hostQueue = .read w off :: rest ∨ s.hostQueue = .write w off data :: rest) → place w off = none →
          step s = .next { s with
            busyLeft := if s.seq = .busy then s.busyLeft - 1 else s.busyLeft, hostQueue := rest,
            reply := some { busError := true, data := 0#32 } }

/-- R29, R64, R71: the places of the address map; while IDLE, RST asserted or not (log 6), a read returns the value of its
place and changes nothing (the registers at their offsets, and the bytes of a window or a memory little-endian, with zeros
above a narrow read: log 2), and an accepted write to a read-only place is ignored without a bus error (log 7; its reply of 0:
log 2). -/
def Obligations.IdleReadsHaveNoSideEffect : Prop :=
  (∀ (w : Width) (off : Offset),
      (∀ p, (off.toNat, p) ∈ [(0x00, .cmd), (0x04, .status), (0x08, .ctrl), (0x0C, .id), (0x10, .arg0), (0x14, .arg1),
        (0x18, .arg2), (0x1C, .res0), (0x20, .res1), (0x24, .errCnt)] → place .w32 off = some p)
      ∧ (off.toNat % w.bytes = 0 →
        (0x00400 ≤ off.toNat → off.toNat + w.bytes ≤ 0x004FF → place w off = some (.errLoc (off.toNat - 0x00400)))
        ∧ (0x00500 ≤ off.toNat → off.toNat + w.bytes ≤ 0x005FF → place w off = some (.errMag (off.toNat - 0x00500)))
        ∧ (0x01000 ≤ off.toNat → off.toNat + w.bytes ≤ 0x02000 → place w off = some (.cwbuf off.toNat))
        ∧ (0x04000 ≤ off.toNat → off.toNat + w.bytes ≤ 0x07000 → place w off = some (.outbuf off.toNat))
        ∧ (0x08000 ≤ off.toNat → off.toNat + w.bytes ≤ 0x14000 → place w off = some (.segtab off.toNat))))
  ∧ (∀ (s : State) (rest : List HostOp) (off : Offset) (v : Word), s.seq = .idle →
      (off.toNat, v) ∈ [(0x00, s.curCmd), (0x04, s.statusWord), (0x08, if s.ie then 1#32 else 0#32), (0x0C, 0x51524631#32),
        (0x10, s.arg0), (0x14, s.arg1), (0x18, s.arg2), (0x1C, s.res0), (0x20, s.res1), (0x24, s.errCnt.setWidth 32)] →
      s.hostQueue = .read .w32 off :: rest →
        step s = .next { s with hostQueue := rest, reply := some { busError := false, data := v } })
  ∧ (∀ (s : State) (w : Width) (off : Offset) (rest : List HostOp) (p : Place), s.seq = .idle →
      place w off = some p → 0x00028 ≤ off.toNat → s.hostQueue = .read w off :: rest →
        ∃ v : Word, step s = .next { s with hostQueue := rest, reply := some { busError := false, data := v } }
          ∧ v.toNat < 256 ^ w.bytes
          ∧ ∀ j, j < w.bytes → v.toNat / 256 ^ j % 256 = (s.visibleByte (off.toNat + j)).toNat)
  ∧ ∀ (s : State) (w : Width) (off : Offset) (data : Word) (rest : List HostOp) (p : Place), s.seq = .idle →
    place w off = some p →
      (s.hostQueue = .read w off :: rest →
        step s = .next { s with hostQueue := rest, reply := some { busError := false, data := s.valueAt w p } })
      ∧ (s.hostQueue = .write w off data :: rest →
        (p ∈ [.id, .res0, .res1, .errCnt] ∨ ∃ k, p = .errLoc k ∨ p = .errMag k ∨ p = .outbuf k ∨ p = .segtab k) →
        step s = .next { s with hostQueue := rest, reply := some { busError := false, data := 0#32 } })

/-- R64: host accesses to CWBUF are little-endian: a write of any width is seen byte by byte, the low byte at the lowest
offset, no other byte changes, and a read of any width puts the bytes together the same way. That a narrow write uses the low
bits of its 32-bit datum, that a narrow read has zeros above them, and the 0 in the reply to a write are the model's choice
(log 2). -/
def Obligations.CwbufIsLittleEndian : Prop :=
  ∀ (s : State) (w : Width) (off : Offset) (data : Word) (rest : List HostOp), s.rst = false → s.seq = .idle →
    place w off = some (.cwbuf off.toNat) →
      (s.hostQueue = .write w off data :: rest → Answers (step s) fun t =>
        (∀ j, j < w.bytes → t.readByte (off.toNat + j) = BitVec.ofNat 8 (data.toNat / 256 ^ j))
          ∧ SameMemExcept s t (fun a => off.toNat ≤ a ∧ a < off.toNat + w.bytes)
          ∧ t = { s with mem := t.mem, hostQueue := rest, reply := some { busError := false, data := 0#32 } })
      ∧ ∀ j, j < w.bytes →
          (s.valueAt w (.cwbuf off.toNat)).toNat / 256 ^ j % 256 = (s.readByte (off.toNat + j)).toNat
            ∧ (s.valueAt w (.cwbuf off.toNat)).toNat < 256 ^ w.bytes

/-- R30, R34, R36: a CMD write while IDLE issues the word whatever its bits: it and the operands are latched, DONE, ERR,
ERRCODE and ERRDETAIL are cleared, OVR kept; a write to ARG0, ARG1 or ARG2 sets that register (the 0 in the reply to a write:
log 2). -/
def Obligations.IssueLatchesWordAndOperands : Prop :=
  ∀ (s : State) (data : Word) (rest : List HostOp), s.rst = false → s.seq = .idle →
    (s.hostQueue = .write .w32 0x00000#20 data :: rest → Answers (step s) fun t =>
      t.seq = .busy ∧ t.curCmd = data ∧ t.curArg0 = s.arg0 ∧ t.curArg1 = s.arg1 ∧ t.curArg2 = s.arg2
        ∧ t.done = false ∧ t.err = false ∧ t.errCode = 0#4 ∧ t.errDetail = 0#4 ∧ t.ovr = s.ovr ∧ t.irq = false
        ∧ t.ie = s.ie ∧ t.arg0 = s.arg0 ∧ t.arg1 = s.arg1 ∧ t.arg2 = s.arg2
        ∧ SameResults s t ∧ SameRs s t ∧ SamePR s t ∧ SameMem s t ∧ t.segActive = false ∧ t.hostQueue = rest)
    ∧ (s.hostQueue = .write .w32 0x00010#20 data :: rest →
        step s = .next { s with arg0 := data, hostQueue := rest, reply := some { busError := false, data := 0#32 } })
    ∧ (s.hostQueue = .write .w32 0x00014#20 data :: rest →
        step s = .next { s with arg1 := data, hostQueue := rest, reply := some { busError := false, data := 0#32 } })
    ∧ (s.hostQueue = .write .w32 0x00018#20 data :: rest →
        step s = .next { s with arg2 := data, hostQueue := rest, reply := some { busError := false, data := 0#32 } })

/-- R331, R332: while BUSY a CMD write is dropped and sets OVR, every other accepted write is dropped without effect and
without a bus error. The 0 in the reply and the count of accesses let in are the model's own (log 2, log 3). -/
def Obligations.WritesWhileBusyAreDropped : Prop :=
  ∀ (s : State) (w : Width) (off : Offset) (data : Word) (rest : List HostOp) (p : Place), s.seq = .busy →
    s.busyLeft ≠ 0 → s.hostQueue = .write w off data :: rest → place w off = some p →
      step s = .next { s with
        ovr := s.ovr || p = .cmd, busyLeft := s.busyLeft - 1, hostQueue := rest,
        reply := some { busError := false, data := 0#32 } }

/-- R333: while BUSY a read changes nothing of the block; STATUS shows BUSY = 1 and the current OVR, CMD, CTRL, ID and
ARG0..ARG2 their values; a result, a window or a memory gives a fresh draw: all 32 bits for RES0 and RES1, the low 8 for
ERRCNT, as many as the access is wide for a window or a memory. The counter of draws is the model's own (log 4), and so are
the zeros above a narrow reply (log 2) and the count of accesses let in (log 3). -/
def Obligations.ReadsWhileBusy : Prop :=
  ∀ (s : State) (w : Width) (off : Offset) (rest : List HostOp) (p : Place), s.StatusOk → s.seq = .busy →
    s.busyLeft ≠ 0 → s.hostQueue = .read w off :: rest → place w off = some p → Answers (step s) fun t =>
      ∃ v : Word, t = { s with
          busyLeft := s.busyLeft - 1, hostQueue := rest, draws := t.draws, reply := some { busError := false, data := v } }
        ∧ v.toNat < 256 ^ w.bytes
        ∧ match p with
          | .status => v = (if s.ovr then 0x9#32 else 0x1#32) ∧ t.draws = s.draws
          | .cmd => v = s.curCmd ∧ t.draws = s.draws
          | .ctrl => v = (if s.ie then 1#32 else 0#32) ∧ t.draws = s.draws
          | .id => v = 0x51524631#32 ∧ t.draws = s.draws
          | .arg0 => v = s.arg0 ∧ t.draws = s.draws
          | .arg1 => v = s.arg1 ∧ t.draws = s.draws
          | .arg2 => v = s.arg2 ∧ t.draws = s.draws
          | .errCnt => v.toNat = (Config.readDraw s.draws).toNat % 256 ∧ t.draws = s.draws + 1
          | .res0 | .res1 => v = Config.readDraw s.draws ∧ t.draws = s.draws + 1
          | .errLoc _ | .errMag _ | .cwbuf _ | .outbuf _ | .segtab _ =>
            v.toNat = (Config.readDraw s.draws).toNat % 256 ^ w.bytes ∧ t.draws = s.draws + 1

/-- R31, R32, R40, R294: the fields of STATUS at their bits, the rest 0; a STATUS write clears DONE and OVR where it has a 1
and touches nothing else; a CTRL write sets IE from bit 0; IRQ is DONE and IE. The 0 in the
reply to a write is the model's own (log 2). -/
def Obligations.StatusControlAndInterrupt : Prop :=
  ∀ s : State,
    (s.statusWord.getLsbD 0 = decide (s.seq = .busy) ∧ s.statusWord.getLsbD 1 = s.done ∧ s.statusWord.getLsbD 2 = s.err
      ∧ s.statusWord.getLsbD 3 = s.ovr ∧ s.statusWord.toNat / 2 ^ 4 % 2 ^ 4 = 0
      ∧ s.statusWord.toNat / 2 ^ 8 % 2 ^ 4 = s.errCode.toNat ∧ s.statusWord.toNat / 2 ^ 12 % 2 ^ 4 = s.errDetail.toNat
      ∧ s.statusWord.toNat / 2 ^ 16 = 0)
    ∧ (s.irq = true ↔ s.done = true ∧ s.ie = true)
    ∧ ∀ (data : Word) (rest : List HostOp), s.rst = false → s.seq = .idle →
      (s.hostQueue = .write .w32 0x00004#20 data :: rest → step s = .next { s with
          done := if data.getLsbD 1 then false else s.done, ovr := if data.getLsbD 3 then false else s.ovr,
          hostQueue := rest, reply := some { busError := false, data := 0#32 } })
      ∧ (s.hostQueue = .write .w32 0x00008#20 data :: rest → step s = .next { s with
          ie := data.getLsbD 0, hostQueue := rest, reply := some { busError := false, data := 0#32 } })

/-- R97: WAIT reads STATUS and stays first in the queue until it has seen BUSY = 0. That it is one entry of the host's queue is
the model's choice (log 15), and so are its answer while RST is asserted (BUSY = 0, so that it ends: log 6) and the count of
accesses let in while BUSY (log 3). -/
def Obligations.WaitPollsUntilIdle : Prop :=
  ∀ (s : State) (rest : List HostOp), s.hostQueue = .wait :: rest → s.hostMayMove = true →
    Answers (step s) fun t =>
      t.reply = some { busError := false, data := s.statusWord }
        ∧ t.hostQueue = (if s.seq = .busy then .wait :: rest else rest)
        ∧ t = { s with busyLeft := t.busyLeft, hostQueue := t.hostQueue, reply := t.reply }
        ∧ (s.seq = .busy → t.busyLeft < s.busyLeft)
end

