-- ==== Sys2Proof/Laws/State.lean ====
section
/-! SUPPORT. What each update of the state does to each field, so that no later proof unfolds a record update. -/

set_option Elab.async false

namespace Sys2Proof.Machine

/-! ### setPR -/

@[simp] theorem State.setPR_seq (s : State) (i : PReg) (p : Poly) : (s.setPR i p).seq = s.seq := rfl
@[simp] theorem State.setPR_done (s : State) (i : PReg) (p : Poly) : (s.setPR i p).done = s.done := rfl
@[simp] theorem State.setPR_err (s : State) (i : PReg) (p : Poly) : (s.setPR i p).err = s.err := rfl
@[simp] theorem State.setPR_ovr (s : State) (i : PReg) (p : Poly) : (s.setPR i p).ovr = s.ovr := rfl
@[simp] theorem State.setPR_errCode (s : State) (i : PReg) (p : Poly) : (s.setPR i p).errCode = s.errCode := rfl
@[simp] theorem State.setPR_errDetail (s : State) (i : PReg) (p : Poly) : (s.setPR i p).errDetail = s.errDetail := rfl
@[simp] theorem State.setPR_ie (s : State) (i : PReg) (p : Poly) : (s.setPR i p).ie = s.ie := rfl
@[simp] theorem State.setPR_curCmd (s : State) (i : PReg) (p : Poly) : (s.setPR i p).curCmd = s.curCmd := rfl
@[simp] theorem State.setPR_curArg0 (s : State) (i : PReg) (p : Poly) : (s.setPR i p).curArg0 = s.curArg0 := rfl
@[simp] theorem State.setPR_curArg1 (s : State) (i : PReg) (p : Poly) : (s.setPR i p).curArg1 = s.curArg1 := rfl
@[simp] theorem State.setPR_curArg2 (s : State) (i : PReg) (p : Poly) : (s.setPR i p).curArg2 = s.curArg2 := rfl
@[simp] theorem State.setPR_arg0 (s : State) (i : PReg) (p : Poly) : (s.setPR i p).arg0 = s.arg0 := rfl
@[simp] theorem State.setPR_arg1 (s : State) (i : PReg) (p : Poly) : (s.setPR i p).arg1 = s.arg1 := rfl
@[simp] theorem State.setPR_arg2 (s : State) (i : PReg) (p : Poly) : (s.setPR i p).arg2 = s.arg2 := rfl
@[simp] theorem State.setPR_res0 (s : State) (i : PReg) (p : Poly) : (s.setPR i p).res0 = s.res0 := rfl
@[simp] theorem State.setPR_res1 (s : State) (i : PReg) (p : Poly) : (s.setPR i p).res1 = s.res1 := rfl
@[simp] theorem State.setPR_errCnt (s : State) (i : PReg) (p : Poly) : (s.setPR i p).errCnt = s.errCnt := rfl
@[simp] theorem State.setPR_errLoc (s : State) (i : PReg) (p : Poly) : (s.setPR i p).errLoc = s.errLoc := rfl
@[simp] theorem State.setPR_errMag (s : State) (i : PReg) (p : Poly) : (s.setPR i p).errMag = s.errMag := rfl
@[simp] theorem State.setPR_pr (s : State) (i : PReg) (p : Poly) : (s.setPR i p).pr = s.pr.set i p := rfl
@[simp] theorem State.setPR_mem (s : State) (i : PReg) (p : Poly) : (s.setPR i p).mem = s.mem := rfl
@[simp] theorem State.setPR_segActive (s : State) (i : PReg) (p : Poly) : (s.setPR i p).segActive = s.segActive := rfl
@[simp] theorem State.setPR_seg (s : State) (i : PReg) (p : Poly) : (s.setPR i p).seg = s.seg := rfl
@[simp] theorem State.setPR_rst (s : State) (i : PReg) (p : Poly) : (s.setPR i p).rst = s.rst := rfl
@[simp] theorem State.setPR_epoch (s : State) (i : PReg) (p : Poly) : (s.setPR i p).epoch = s.epoch := rfl
@[simp] theorem State.setPR_draws (s : State) (i : PReg) (p : Poly) : (s.setPR i p).draws = s.draws := rfl
@[simp] theorem State.setPR_busyLeft (s : State) (i : PReg) (p : Poly) : (s.setPR i p).busyLeft = s.busyLeft := rfl
@[simp] theorem State.setPR_hostQueue (s : State) (i : PReg) (p : Poly) : (s.setPR i p).hostQueue = s.hostQueue := rfl
@[simp] theorem State.setPR_reply (s : State) (i : PReg) (p : Poly) : (s.setPR i p).reply = s.reply := rfl

/-! ### setRes0 -/

@[simp] theorem State.setRes0_seq (s : State) (n : Nat) : (s.setRes0 n).seq = s.seq := rfl
@[simp] theorem State.setRes0_done (s : State) (n : Nat) : (s.setRes0 n).done = s.done := rfl
@[simp] theorem State.setRes0_err (s : State) (n : Nat) : (s.setRes0 n).err = s.err := rfl
@[simp] theorem State.setRes0_ovr (s : State) (n : Nat) : (s.setRes0 n).ovr = s.ovr := rfl
@[simp] theorem State.setRes0_errCode (s : State) (n : Nat) : (s.setRes0 n).errCode = s.errCode := rfl
@[simp] theorem State.setRes0_errDetail (s : State) (n : Nat) : (s.setRes0 n).errDetail = s.errDetail := rfl
@[simp] theorem State.setRes0_ie (s : State) (n : Nat) : (s.setRes0 n).ie = s.ie := rfl
@[simp] theorem State.setRes0_curCmd (s : State) (n : Nat) : (s.setRes0 n).curCmd = s.curCmd := rfl
@[simp] theorem State.setRes0_curArg0 (s : State) (n : Nat) : (s.setRes0 n).curArg0 = s.curArg0 := rfl
@[simp] theorem State.setRes0_curArg1 (s : State) (n : Nat) : (s.setRes0 n).curArg1 = s.curArg1 := rfl
@[simp] theorem State.setRes0_curArg2 (s : State) (n : Nat) : (s.setRes0 n).curArg2 = s.curArg2 := rfl
@[simp] theorem State.setRes0_arg0 (s : State) (n : Nat) : (s.setRes0 n).arg0 = s.arg0 := rfl
@[simp] theorem State.setRes0_arg1 (s : State) (n : Nat) : (s.setRes0 n).arg1 = s.arg1 := rfl
@[simp] theorem State.setRes0_arg2 (s : State) (n : Nat) : (s.setRes0 n).arg2 = s.arg2 := rfl
@[simp] theorem State.setRes0_res0 (s : State) (n : Nat) : (s.setRes0 n).res0 = BitVec.ofNat 32 n := rfl
@[simp] theorem State.setRes0_res1 (s : State) (n : Nat) : (s.setRes0 n).res1 = s.res1 := rfl
@[simp] theorem State.setRes0_errCnt (s : State) (n : Nat) : (s.setRes0 n).errCnt = s.errCnt := rfl
@[simp] theorem State.setRes0_errLoc (s : State) (n : Nat) : (s.setRes0 n).errLoc = s.errLoc := rfl
@[simp] theorem State.setRes0_errMag (s : State) (n : Nat) : (s.setRes0 n).errMag = s.errMag := rfl
@[simp] theorem State.setRes0_pr (s : State) (n : Nat) : (s.setRes0 n).pr = s.pr := rfl
@[simp] theorem State.setRes0_mem (s : State) (n : Nat) : (s.setRes0 n).mem = s.mem := rfl
@[simp] theorem State.setRes0_segActive (s : State) (n : Nat) : (s.setRes0 n).segActive = s.segActive := rfl
@[simp] theorem State.setRes0_seg (s : State) (n : Nat) : (s.setRes0 n).seg = s.seg := rfl
@[simp] theorem State.setRes0_rst (s : State) (n : Nat) : (s.setRes0 n).rst = s.rst := rfl
@[simp] theorem State.setRes0_epoch (s : State) (n : Nat) : (s.setRes0 n).epoch = s.epoch := rfl
@[simp] theorem State.setRes0_draws (s : State) (n : Nat) : (s.setRes0 n).draws = s.draws := rfl
@[simp] theorem State.setRes0_busyLeft (s : State) (n : Nat) : (s.setRes0 n).busyLeft = s.busyLeft := rfl
@[simp] theorem State.setRes0_hostQueue (s : State) (n : Nat) : (s.setRes0 n).hostQueue = s.hostQueue := rfl
@[simp] theorem State.setRes0_reply (s : State) (n : Nat) : (s.setRes0 n).reply = s.reply := rfl

/-! ### setRes1 -/

@[simp] theorem State.setRes1_seq (s : State) (n : Nat) : (s.setRes1 n).seq = s.seq := rfl
@[simp] theorem State.setRes1_done (s : State) (n : Nat) : (s.setRes1 n).done = s.done := rfl
@[simp] theorem State.setRes1_err (s : State) (n : Nat) : (s.setRes1 n).err = s.err := rfl
@[simp] theorem State.setRes1_ovr (s : State) (n : Nat) : (s.setRes1 n).ovr = s.ovr := rfl
@[simp] theorem State.setRes1_errCode (s : State) (n : Nat) : (s.setRes1 n).errCode = s.errCode := rfl
@[simp] theorem State.setRes1_errDetail (s : State) (n : Nat) : (s.setRes1 n).errDetail = s.errDetail := rfl
@[simp] theorem State.setRes1_ie (s : State) (n : Nat) : (s.setRes1 n).ie = s.ie := rfl
@[simp] theorem State.setRes1_curCmd (s : State) (n : Nat) : (s.setRes1 n).curCmd = s.curCmd := rfl
@[simp] theorem State.setRes1_curArg0 (s : State) (n : Nat) : (s.setRes1 n).curArg0 = s.curArg0 := rfl
@[simp] theorem State.setRes1_curArg1 (s : State) (n : Nat) : (s.setRes1 n).curArg1 = s.curArg1 := rfl
@[simp] theorem State.setRes1_curArg2 (s : State) (n : Nat) : (s.setRes1 n).curArg2 = s.curArg2 := rfl
@[simp] theorem State.setRes1_arg0 (s : State) (n : Nat) : (s.setRes1 n).arg0 = s.arg0 := rfl
@[simp] theorem State.setRes1_arg1 (s : State) (n : Nat) : (s.setRes1 n).arg1 = s.arg1 := rfl
@[simp] theorem State.setRes1_arg2 (s : State) (n : Nat) : (s.setRes1 n).arg2 = s.arg2 := rfl
@[simp] theorem State.setRes1_res0 (s : State) (n : Nat) : (s.setRes1 n).res0 = s.res0 := rfl
@[simp] theorem State.setRes1_res1 (s : State) (n : Nat) : (s.setRes1 n).res1 = BitVec.ofNat 32 n := rfl
@[simp] theorem State.setRes1_errCnt (s : State) (n : Nat) : (s.setRes1 n).errCnt = s.errCnt := rfl
@[simp] theorem State.setRes1_errLoc (s : State) (n : Nat) : (s.setRes1 n).errLoc = s.errLoc := rfl
@[simp] theorem State.setRes1_errMag (s : State) (n : Nat) : (s.setRes1 n).errMag = s.errMag := rfl
@[simp] theorem State.setRes1_pr (s : State) (n : Nat) : (s.setRes1 n).pr = s.pr := rfl
@[simp] theorem State.setRes1_mem (s : State) (n : Nat) : (s.setRes1 n).mem = s.mem := rfl
@[simp] theorem State.setRes1_segActive (s : State) (n : Nat) : (s.setRes1 n).segActive = s.segActive := rfl
@[simp] theorem State.setRes1_seg (s : State) (n : Nat) : (s.setRes1 n).seg = s.seg := rfl
@[simp] theorem State.setRes1_rst (s : State) (n : Nat) : (s.setRes1 n).rst = s.rst := rfl
@[simp] theorem State.setRes1_epoch (s : State) (n : Nat) : (s.setRes1 n).epoch = s.epoch := rfl
@[simp] theorem State.setRes1_draws (s : State) (n : Nat) : (s.setRes1 n).draws = s.draws := rfl
@[simp] theorem State.setRes1_busyLeft (s : State) (n : Nat) : (s.setRes1 n).busyLeft = s.busyLeft := rfl
@[simp] theorem State.setRes1_hostQueue (s : State) (n : Nat) : (s.setRes1 n).hostQueue = s.hostQueue := rfl
@[simp] theorem State.setRes1_reply (s : State) (n : Nat) : (s.setRes1 n).reply = s.reply := rfl

/-! ### writeByte -/

@[simp] theorem State.writeByte_seq (s : State) (a : Nat) (v : Byte) : (s.writeByte a v).seq = s.seq := rfl
@[simp] theorem State.writeByte_done (s : State) (a : Nat) (v : Byte) : (s.writeByte a v).done = s.done := rfl
@[simp] theorem State.writeByte_err (s : State) (a : Nat) (v : Byte) : (s.writeByte a v).err = s.err := rfl
@[simp] theorem State.writeByte_ovr (s : State) (a : Nat) (v : Byte) : (s.writeByte a v).ovr = s.ovr := rfl
@[simp] theorem State.writeByte_errCode (s : State) (a : Nat) (v : Byte) : (s.writeByte a v).errCode = s.errCode := rfl
@[simp] theorem State.writeByte_errDetail (s : State) (a : Nat) (v : Byte) : (s.writeByte a v).errDetail = s.errDetail := rfl
@[simp] theorem State.writeByte_ie (s : State) (a : Nat) (v : Byte) : (s.writeByte a v).ie = s.ie := rfl
@[simp] theorem State.writeByte_curCmd (s : State) (a : Nat) (v : Byte) : (s.writeByte a v).curCmd = s.curCmd := rfl
@[simp] theorem State.writeByte_curArg0 (s : State) (a : Nat) (v : Byte) : (s.writeByte a v).curArg0 = s.curArg0 := rfl
@[simp] theorem State.writeByte_curArg1 (s : State) (a : Nat) (v : Byte) : (s.writeByte a v).curArg1 = s.curArg1 := rfl
@[simp] theorem State.writeByte_curArg2 (s : State) (a : Nat) (v : Byte) : (s.writeByte a v).curArg2 = s.curArg2 := rfl
@[simp] theorem State.writeByte_arg0 (s : State) (a : Nat) (v : Byte) : (s.writeByte a v).arg0 = s.arg0 := rfl
@[simp] theorem State.writeByte_arg1 (s : State) (a : Nat) (v : Byte) : (s.writeByte a v).arg1 = s.arg1 := rfl
@[simp] theorem State.writeByte_arg2 (s : State) (a : Nat) (v : Byte) : (s.writeByte a v).arg2 = s.arg2 := rfl
@[simp] theorem State.writeByte_res0 (s : State) (a : Nat) (v : Byte) : (s.writeByte a v).res0 = s.res0 := rfl
@[simp] theorem State.writeByte_res1 (s : State) (a : Nat) (v : Byte) : (s.writeByte a v).res1 = s.res1 := rfl
@[simp] theorem State.writeByte_errCnt (s : State) (a : Nat) (v : Byte) : (s.writeByte a v).errCnt = s.errCnt := rfl
@[simp] theorem State.writeByte_errLoc (s : State) (a : Nat) (v : Byte) : (s.writeByte a v).errLoc = s.errLoc := rfl
@[simp] theorem State.writeByte_errMag (s : State) (a : Nat) (v : Byte) : (s.writeByte a v).errMag = s.errMag := rfl
@[simp] theorem State.writeByte_pr (s : State) (a : Nat) (v : Byte) : (s.writeByte a v).pr = s.pr := rfl
@[simp] theorem State.writeByte_mem (s : State) (a : Nat) (v : Byte) : (s.writeByte a v).mem = Memory.store s.mem a v := rfl
@[simp] theorem State.writeByte_segActive (s : State) (a : Nat) (v : Byte) : (s.writeByte a v).segActive = s.segActive := rfl
@[simp] theorem State.writeByte_seg (s : State) (a : Nat) (v : Byte) : (s.writeByte a v).seg = s.seg := rfl
@[simp] theorem State.writeByte_rst (s : State) (a : Nat) (v : Byte) : (s.writeByte a v).rst = s.rst := rfl
@[simp] theorem State.writeByte_epoch (s : State) (a : Nat) (v : Byte) : (s.writeByte a v).epoch = s.epoch := rfl
@[simp] theorem State.writeByte_draws (s : State) (a : Nat) (v : Byte) : (s.writeByte a v).draws = s.draws := rfl
@[simp] theorem State.writeByte_busyLeft (s : State) (a : Nat) (v : Byte) : (s.writeByte a v).busyLeft = s.busyLeft := rfl
@[simp] theorem State.writeByte_hostQueue (s : State) (a : Nat) (v : Byte) : (s.writeByte a v).hostQueue = s.hostQueue := rfl
@[simp] theorem State.writeByte_reply (s : State) (a : Nat) (v : Byte) : (s.writeByte a v).reply = s.reply := rfl

/-! ### flagsIssued -/

@[simp] theorem State.flagsIssued_seq (s : State) : (s.flagsIssued).seq = .busy := rfl
@[simp] theorem State.flagsIssued_done (s : State) : (s.flagsIssued).done = false := rfl
@[simp] theorem State.flagsIssued_err (s : State) : (s.flagsIssued).err = false := rfl
@[simp] theorem State.flagsIssued_ovr (s : State) : (s.flagsIssued).ovr = s.ovr := rfl
@[simp] theorem State.flagsIssued_errCode (s : State) : (s.flagsIssued).errCode = 0#4 := rfl
@[simp] theorem State.flagsIssued_errDetail (s : State) : (s.flagsIssued).errDetail = 0#4 := rfl
@[simp] theorem State.flagsIssued_ie (s : State) : (s.flagsIssued).ie = s.ie := rfl
@[simp] theorem State.flagsIssued_curCmd (s : State) : (s.flagsIssued).curCmd = s.curCmd := rfl
@[simp] theorem State.flagsIssued_curArg0 (s : State) : (s.flagsIssued).curArg0 = s.curArg0 := rfl
@[simp] theorem State.flagsIssued_curArg1 (s : State) : (s.flagsIssued).curArg1 = s.curArg1 := rfl
@[simp] theorem State.flagsIssued_curArg2 (s : State) : (s.flagsIssued).curArg2 = s.curArg2 := rfl
@[simp] theorem State.flagsIssued_arg0 (s : State) : (s.flagsIssued).arg0 = s.arg0 := rfl
@[simp] theorem State.flagsIssued_arg1 (s : State) : (s.flagsIssued).arg1 = s.arg1 := rfl
@[simp] theorem State.flagsIssued_arg2 (s : State) : (s.flagsIssued).arg2 = s.arg2 := rfl
@[simp] theorem State.flagsIssued_res0 (s : State) : (s.flagsIssued).res0 = s.res0 := rfl
@[simp] theorem State.flagsIssued_res1 (s : State) : (s.flagsIssued).res1 = s.res1 := rfl
@[simp] theorem State.flagsIssued_errCnt (s : State) : (s.flagsIssued).errCnt = s.errCnt := rfl
@[simp] theorem State.flagsIssued_errLoc (s : State) : (s.flagsIssued).errLoc = s.errLoc := rfl
@[simp] theorem State.flagsIssued_errMag (s : State) : (s.flagsIssued).errMag = s.errMag := rfl
@[simp] theorem State.flagsIssued_pr (s : State) : (s.flagsIssued).pr = s.pr := rfl
@[simp] theorem State.flagsIssued_mem (s : State) : (s.flagsIssued).mem = s.mem := rfl
@[simp] theorem State.flagsIssued_segActive (s : State) : (s.flagsIssued).segActive = s.segActive := rfl
@[simp] theorem State.flagsIssued_seg (s : State) : (s.flagsIssued).seg = s.seg := rfl
@[simp] theorem State.flagsIssued_rst (s : State) : (s.flagsIssued).rst = s.rst := rfl
@[simp] theorem State.flagsIssued_epoch (s : State) : (s.flagsIssued).epoch = s.epoch := rfl
@[simp] theorem State.flagsIssued_draws (s : State) : (s.flagsIssued).draws = s.draws := rfl
@[simp] theorem State.flagsIssued_busyLeft (s : State) : (s.flagsIssued).busyLeft = s.busyLeft := rfl
@[simp] theorem State.flagsIssued_hostQueue (s : State) : (s.flagsIssued).hostQueue = s.hostQueue := rfl
@[simp] theorem State.flagsIssued_reply (s : State) : (s.flagsIssued).reply = s.reply := rfl

/-! ### flagsDone -/

@[simp] theorem State.flagsDone_seq (s : State) : (s.flagsDone).seq = .idle := rfl
@[simp] theorem State.flagsDone_done (s : State) : (s.flagsDone).done = true := rfl
@[simp] theorem State.flagsDone_err (s : State) : (s.flagsDone).err = false := rfl
@[simp] theorem State.flagsDone_ovr (s : State) : (s.flagsDone).ovr = s.ovr := rfl
@[simp] theorem State.flagsDone_errCode (s : State) : (s.flagsDone).errCode = 0#4 := rfl
@[simp] theorem State.flagsDone_errDetail (s : State) : (s.flagsDone).errDetail = 0#4 := rfl
@[simp] theorem State.flagsDone_ie (s : State) : (s.flagsDone).ie = s.ie := rfl
@[simp] theorem State.flagsDone_curCmd (s : State) : (s.flagsDone).curCmd = s.curCmd := rfl
@[simp] theorem State.flagsDone_curArg0 (s : State) : (s.flagsDone).curArg0 = s.curArg0 := rfl
@[simp] theorem State.flagsDone_curArg1 (s : State) : (s.flagsDone).curArg1 = s.curArg1 := rfl
@[simp] theorem State.flagsDone_curArg2 (s : State) : (s.flagsDone).curArg2 = s.curArg2 := rfl
@[simp] theorem State.flagsDone_arg0 (s : State) : (s.flagsDone).arg0 = s.arg0 := rfl
@[simp] theorem State.flagsDone_arg1 (s : State) : (s.flagsDone).arg1 = s.arg1 := rfl
@[simp] theorem State.flagsDone_arg2 (s : State) : (s.flagsDone).arg2 = s.arg2 := rfl
@[simp] theorem State.flagsDone_res0 (s : State) : (s.flagsDone).res0 = s.res0 := rfl
@[simp] theorem State.flagsDone_res1 (s : State) : (s.flagsDone).res1 = s.res1 := rfl
@[simp] theorem State.flagsDone_errCnt (s : State) : (s.flagsDone).errCnt = s.errCnt := rfl
@[simp] theorem State.flagsDone_errLoc (s : State) : (s.flagsDone).errLoc = s.errLoc := rfl
@[simp] theorem State.flagsDone_errMag (s : State) : (s.flagsDone).errMag = s.errMag := rfl
@[simp] theorem State.flagsDone_pr (s : State) : (s.flagsDone).pr = s.pr := rfl
@[simp] theorem State.flagsDone_mem (s : State) : (s.flagsDone).mem = s.mem := rfl
@[simp] theorem State.flagsDone_segActive (s : State) : (s.flagsDone).segActive = s.segActive := rfl
@[simp] theorem State.flagsDone_seg (s : State) : (s.flagsDone).seg = s.seg := rfl
@[simp] theorem State.flagsDone_rst (s : State) : (s.flagsDone).rst = s.rst := rfl
@[simp] theorem State.flagsDone_epoch (s : State) : (s.flagsDone).epoch = s.epoch := rfl
@[simp] theorem State.flagsDone_draws (s : State) : (s.flagsDone).draws = s.draws := rfl
@[simp] theorem State.flagsDone_busyLeft (s : State) : (s.flagsDone).busyLeft = s.busyLeft := rfl
@[simp] theorem State.flagsDone_hostQueue (s : State) : (s.flagsDone).hostQueue = s.hostQueue := rfl
@[simp] theorem State.flagsDone_reply (s : State) : (s.flagsDone).reply = s.reply := rfl

/-! ### flagsError -/

@[simp] theorem State.flagsError_seq (s : State) (e : Err) : (s.flagsError e).seq = .idle := rfl
@[simp] theorem State.flagsError_done (s : State) (e : Err) : (s.flagsError e).done = true := rfl
@[simp] theorem State.flagsError_err (s : State) (e : Err) : (s.flagsError e).err = true := rfl
@[simp] theorem State.flagsError_ovr (s : State) (e : Err) : (s.flagsError e).ovr = s.ovr := rfl
@[simp] theorem State.flagsError_errCode (s : State) (e : Err) : (s.flagsError e).errCode = e.code := rfl
@[simp] theorem State.flagsError_errDetail (s : State) (e : Err) : (s.flagsError e).errDetail = e.detail := rfl
@[simp] theorem State.flagsError_ie (s : State) (e : Err) : (s.flagsError e).ie = s.ie := rfl
@[simp] theorem State.flagsError_curCmd (s : State) (e : Err) : (s.flagsError e).curCmd = s.curCmd := rfl
@[simp] theorem State.flagsError_curArg0 (s : State) (e : Err) : (s.flagsError e).curArg0 = s.curArg0 := rfl
@[simp] theorem State.flagsError_curArg1 (s : State) (e : Err) : (s.flagsError e).curArg1 = s.curArg1 := rfl
@[simp] theorem State.flagsError_curArg2 (s : State) (e : Err) : (s.flagsError e).curArg2 = s.curArg2 := rfl
@[simp] theorem State.flagsError_arg0 (s : State) (e : Err) : (s.flagsError e).arg0 = s.arg0 := rfl
@[simp] theorem State.flagsError_arg1 (s : State) (e : Err) : (s.flagsError e).arg1 = s.arg1 := rfl
@[simp] theorem State.flagsError_arg2 (s : State) (e : Err) : (s.flagsError e).arg2 = s.arg2 := rfl
@[simp] theorem State.flagsError_res0 (s : State) (e : Err) : (s.flagsError e).res0 = s.res0 := rfl
@[simp] theorem State.flagsError_res1 (s : State) (e : Err) : (s.flagsError e).res1 = s.res1 := rfl
@[simp] theorem State.flagsError_errCnt (s : State) (e : Err) : (s.flagsError e).errCnt = s.errCnt := rfl
@[simp] theorem State.flagsError_errLoc (s : State) (e : Err) : (s.flagsError e).errLoc = s.errLoc := rfl
@[simp] theorem State.flagsError_errMag (s : State) (e : Err) : (s.flagsError e).errMag = s.errMag := rfl
@[simp] theorem State.flagsError_pr (s : State) (e : Err) : (s.flagsError e).pr = s.pr := rfl
@[simp] theorem State.flagsError_mem (s : State) (e : Err) : (s.flagsError e).mem = s.mem := rfl
@[simp] theorem State.flagsError_segActive (s : State) (e : Err) : (s.flagsError e).segActive = s.segActive := rfl
@[simp] theorem State.flagsError_seg (s : State) (e : Err) : (s.flagsError e).seg = s.seg := rfl
@[simp] theorem State.flagsError_rst (s : State) (e : Err) : (s.flagsError e).rst = s.rst := rfl
@[simp] theorem State.flagsError_epoch (s : State) (e : Err) : (s.flagsError e).epoch = s.epoch := rfl
@[simp] theorem State.flagsError_draws (s : State) (e : Err) : (s.flagsError e).draws = s.draws := rfl
@[simp] theorem State.flagsError_busyLeft (s : State) (e : Err) : (s.flagsError e).busyLeft = s.busyLeft := rfl
@[simp] theorem State.flagsError_hostQueue (s : State) (e : Err) : (s.flagsError e).hostQueue = s.hostQueue := rfl
@[simp] theorem State.flagsError_reply (s : State) (e : Err) : (s.flagsError e).reply = s.reply := rfl

/-! ### dropSeg -/

@[simp] theorem State.dropSeg_seq (s : State) : (s.dropSeg).seq = s.seq := rfl
@[simp] theorem State.dropSeg_done (s : State) : (s.dropSeg).done = s.done := rfl
@[simp] theorem State.dropSeg_err (s : State) : (s.dropSeg).err = s.err := rfl
@[simp] theorem State.dropSeg_ovr (s : State) : (s.dropSeg).ovr = s.ovr := rfl
@[simp] theorem State.dropSeg_errCode (s : State) : (s.dropSeg).errCode = s.errCode := rfl
@[simp] theorem State.dropSeg_errDetail (s : State) : (s.dropSeg).errDetail = s.errDetail := rfl
@[simp] theorem State.dropSeg_ie (s : State) : (s.dropSeg).ie = s.ie := rfl
@[simp] theorem State.dropSeg_curCmd (s : State) : (s.dropSeg).curCmd = s.curCmd := rfl
@[simp] theorem State.dropSeg_curArg0 (s : State) : (s.dropSeg).curArg0 = s.curArg0 := rfl
@[simp] theorem State.dropSeg_curArg1 (s : State) : (s.dropSeg).curArg1 = s.curArg1 := rfl
@[simp] theorem State.dropSeg_curArg2 (s : State) : (s.dropSeg).curArg2 = s.curArg2 := rfl
@[simp] theorem State.dropSeg_arg0 (s : State) : (s.dropSeg).arg0 = s.arg0 := rfl
@[simp] theorem State.dropSeg_arg1 (s : State) : (s.dropSeg).arg1 = s.arg1 := rfl
@[simp] theorem State.dropSeg_arg2 (s : State) : (s.dropSeg).arg2 = s.arg2 := rfl
@[simp] theorem State.dropSeg_res0 (s : State) : (s.dropSeg).res0 = s.res0 := rfl
@[simp] theorem State.dropSeg_res1 (s : State) : (s.dropSeg).res1 = s.res1 := rfl
@[simp] theorem State.dropSeg_errCnt (s : State) : (s.dropSeg).errCnt = s.errCnt := rfl
@[simp] theorem State.dropSeg_errLoc (s : State) : (s.dropSeg).errLoc = s.errLoc := rfl
@[simp] theorem State.dropSeg_errMag (s : State) : (s.dropSeg).errMag = s.errMag := rfl
@[simp] theorem State.dropSeg_pr (s : State) : (s.dropSeg).pr = s.pr := rfl
@[simp] theorem State.dropSeg_mem (s : State) : (s.dropSeg).mem = s.mem := rfl
@[simp] theorem State.dropSeg_segActive (s : State) : (s.dropSeg).segActive = false := rfl
@[simp] theorem State.dropSeg_seg (s : State) : (s.dropSeg).seg = SegRun.start := rfl
@[simp] theorem State.dropSeg_rst (s : State) : (s.dropSeg).rst = s.rst := rfl
@[simp] theorem State.dropSeg_epoch (s : State) : (s.dropSeg).epoch = s.epoch := rfl
@[simp] theorem State.dropSeg_draws (s : State) : (s.dropSeg).draws = s.draws := rfl
@[simp] theorem State.dropSeg_busyLeft (s : State) : (s.dropSeg).busyLeft = s.busyLeft := rfl
@[simp] theorem State.dropSeg_hostQueue (s : State) : (s.dropSeg).hostQueue = s.hostQueue := rfl
@[simp] theorem State.dropSeg_reply (s : State) : (s.dropSeg).reply = s.reply := rfl

/-! ### complete -/

@[simp] theorem State.complete_seq (s : State) : (s.complete).seq = .idle := rfl
@[simp] theorem State.complete_done (s : State) : (s.complete).done = true := rfl
@[simp] theorem State.complete_err (s : State) : (s.complete).err = false := rfl
@[simp] theorem State.complete_ovr (s : State) : (s.complete).ovr = s.ovr := rfl
@[simp] theorem State.complete_errCode (s : State) : (s.complete).errCode = 0#4 := rfl
@[simp] theorem State.complete_errDetail (s : State) : (s.complete).errDetail = 0#4 := rfl
@[simp] theorem State.complete_ie (s : State) : (s.complete).ie = s.ie := rfl
@[simp] theorem State.complete_curCmd (s : State) : (s.complete).curCmd = s.curCmd := rfl
@[simp] theorem State.complete_curArg0 (s : State) : (s.complete).curArg0 = s.curArg0 := rfl
@[simp] theorem State.complete_curArg1 (s : State) : (s.complete).curArg1 = s.curArg1 := rfl
@[simp] theorem State.complete_curArg2 (s : State) : (s.complete).curArg2 = s.curArg2 := rfl
@[simp] theorem State.complete_arg0 (s : State) : (s.complete).arg0 = s.arg0 := rfl
@[simp] theorem State.complete_arg1 (s : State) : (s.complete).arg1 = s.arg1 := rfl
@[simp] theorem State.complete_arg2 (s : State) : (s.complete).arg2 = s.arg2 := rfl
@[simp] theorem State.complete_res0 (s : State) : (s.complete).res0 = s.res0 := rfl
@[simp] theorem State.complete_res1 (s : State) : (s.complete).res1 = s.res1 := rfl
@[simp] theorem State.complete_errCnt (s : State) : (s.complete).errCnt = s.errCnt := rfl
@[simp] theorem State.complete_errLoc (s : State) : (s.complete).errLoc = s.errLoc := rfl
@[simp] theorem State.complete_errMag (s : State) : (s.complete).errMag = s.errMag := rfl
@[simp] theorem State.complete_pr (s : State) : (s.complete).pr = s.pr := rfl
@[simp] theorem State.complete_mem (s : State) : (s.complete).mem = s.mem := rfl
@[simp] theorem State.complete_segActive (s : State) : (s.complete).segActive = false := rfl
@[simp] theorem State.complete_seg (s : State) : (s.complete).seg = SegRun.start := rfl
@[simp] theorem State.complete_rst (s : State) : (s.complete).rst = s.rst := rfl
@[simp] theorem State.complete_epoch (s : State) : (s.complete).epoch = s.epoch := rfl
@[simp] theorem State.complete_draws (s : State) : (s.complete).draws = s.draws := rfl
@[simp] theorem State.complete_busyLeft (s : State) : (s.complete).busyLeft = s.busyLeft := rfl
@[simp] theorem State.complete_hostQueue (s : State) : (s.complete).hostQueue = s.hostQueue := rfl
@[simp] theorem State.complete_reply (s : State) : (s.complete).reply = s.reply := rfl

/-! ### raise -/

@[simp] theorem State.raise_seq (s : State) (e : Err) : (s.raise e).seq = .idle := rfl
@[simp] theorem State.raise_done (s : State) (e : Err) : (s.raise e).done = true := rfl
@[simp] theorem State.raise_err (s : State) (e : Err) : (s.raise e).err = true := rfl
@[simp] theorem State.raise_ovr (s : State) (e : Err) : (s.raise e).ovr = s.ovr := rfl
@[simp] theorem State.raise_errCode (s : State) (e : Err) : (s.raise e).errCode = e.code := rfl
@[simp] theorem State.raise_errDetail (s : State) (e : Err) : (s.raise e).errDetail = e.detail := rfl
@[simp] theorem State.raise_ie (s : State) (e : Err) : (s.raise e).ie = s.ie := rfl
@[simp] theorem State.raise_curCmd (s : State) (e : Err) : (s.raise e).curCmd = s.curCmd := rfl
@[simp] theorem State.raise_curArg0 (s : State) (e : Err) : (s.raise e).curArg0 = s.curArg0 := rfl
@[simp] theorem State.raise_curArg1 (s : State) (e : Err) : (s.raise e).curArg1 = s.curArg1 := rfl
@[simp] theorem State.raise_curArg2 (s : State) (e : Err) : (s.raise e).curArg2 = s.curArg2 := rfl
@[simp] theorem State.raise_arg0 (s : State) (e : Err) : (s.raise e).arg0 = s.arg0 := rfl
@[simp] theorem State.raise_arg1 (s : State) (e : Err) : (s.raise e).arg1 = s.arg1 := rfl
@[simp] theorem State.raise_arg2 (s : State) (e : Err) : (s.raise e).arg2 = s.arg2 := rfl
@[simp] theorem State.raise_res0 (s : State) (e : Err) : (s.raise e).res0 = s.res0 := rfl
@[simp] theorem State.raise_res1 (s : State) (e : Err) : (s.raise e).res1 = s.res1 := rfl
@[simp] theorem State.raise_errCnt (s : State) (e : Err) : (s.raise e).errCnt = s.errCnt := rfl
@[simp] theorem State.raise_errLoc (s : State) (e : Err) : (s.raise e).errLoc = s.errLoc := rfl
@[simp] theorem State.raise_errMag (s : State) (e : Err) : (s.raise e).errMag = s.errMag := rfl
@[simp] theorem State.raise_pr (s : State) (e : Err) : (s.raise e).pr = s.pr := rfl
@[simp] theorem State.raise_mem (s : State) (e : Err) : (s.raise e).mem = s.mem := rfl
@[simp] theorem State.raise_segActive (s : State) (e : Err) : (s.raise e).segActive = false := rfl
@[simp] theorem State.raise_seg (s : State) (e : Err) : (s.raise e).seg = SegRun.start := rfl
@[simp] theorem State.raise_rst (s : State) (e : Err) : (s.raise e).rst = s.rst := rfl
@[simp] theorem State.raise_epoch (s : State) (e : Err) : (s.raise e).epoch = s.epoch := rfl
@[simp] theorem State.raise_draws (s : State) (e : Err) : (s.raise e).draws = s.draws := rfl
@[simp] theorem State.raise_busyLeft (s : State) (e : Err) : (s.raise e).busyLeft = s.busyLeft := rfl
@[simp] theorem State.raise_hostQueue (s : State) (e : Err) : (s.raise e).hostQueue = s.hostQueue := rfl
@[simp] theorem State.raise_reply (s : State) (e : Err) : (s.raise e).reply = s.reply := rfl

/-! ### segFail -/

@[simp] theorem State.segFail_seq (s : State) (e : Err) : (s.segFail e).seq = .idle := rfl
@[simp] theorem State.segFail_done (s : State) (e : Err) : (s.segFail e).done = true := rfl
@[simp] theorem State.segFail_err (s : State) (e : Err) : (s.segFail e).err = true := rfl
@[simp] theorem State.segFail_ovr (s : State) (e : Err) : (s.segFail e).ovr = s.ovr := rfl
@[simp] theorem State.segFail_errCode (s : State) (e : Err) : (s.segFail e).errCode = e.code := rfl
@[simp] theorem State.segFail_errDetail (s : State) (e : Err) : (s.segFail e).errDetail = e.detail := rfl
@[simp] theorem State.segFail_ie (s : State) (e : Err) : (s.segFail e).ie = s.ie := rfl
@[simp] theorem State.segFail_curCmd (s : State) (e : Err) : (s.segFail e).curCmd = s.curCmd := rfl
@[simp] theorem State.segFail_curArg0 (s : State) (e : Err) : (s.segFail e).curArg0 = s.curArg0 := rfl
@[simp] theorem State.segFail_curArg1 (s : State) (e : Err) : (s.segFail e).curArg1 = s.curArg1 := rfl
@[simp] theorem State.segFail_curArg2 (s : State) (e : Err) : (s.segFail e).curArg2 = s.curArg2 := rfl
@[simp] theorem State.segFail_arg0 (s : State) (e : Err) : (s.segFail e).arg0 = s.arg0 := rfl
@[simp] theorem State.segFail_arg1 (s : State) (e : Err) : (s.segFail e).arg1 = s.arg1 := rfl
@[simp] theorem State.segFail_arg2 (s : State) (e : Err) : (s.segFail e).arg2 = s.arg2 := rfl
@[simp] theorem State.segFail_res0 (s : State) (e : Err) : (s.segFail e).res0 = 0#32 := rfl
@[simp] theorem State.segFail_res1 (s : State) (e : Err) : (s.segFail e).res1 = 0#32 := rfl
@[simp] theorem State.segFail_errCnt (s : State) (e : Err) : (s.segFail e).errCnt = s.errCnt := rfl
@[simp] theorem State.segFail_errLoc (s : State) (e : Err) : (s.segFail e).errLoc = s.errLoc := rfl
@[simp] theorem State.segFail_errMag (s : State) (e : Err) : (s.segFail e).errMag = s.errMag := rfl
@[simp] theorem State.segFail_pr (s : State) (e : Err) : (s.segFail e).pr = s.pr := rfl
@[simp] theorem State.segFail_mem (s : State) (e : Err) : (s.segFail e).mem = s.mem := rfl
@[simp] theorem State.segFail_segActive (s : State) (e : Err) : (s.segFail e).segActive = false := rfl
@[simp] theorem State.segFail_seg (s : State) (e : Err) : (s.segFail e).seg = SegRun.start := rfl
@[simp] theorem State.segFail_rst (s : State) (e : Err) : (s.segFail e).rst = s.rst := rfl
@[simp] theorem State.segFail_epoch (s : State) (e : Err) : (s.segFail e).epoch = s.epoch := rfl
@[simp] theorem State.segFail_draws (s : State) (e : Err) : (s.segFail e).draws = s.draws := rfl
@[simp] theorem State.segFail_busyLeft (s : State) (e : Err) : (s.segFail e).busyLeft = s.busyLeft := rfl
@[simp] theorem State.segFail_hostQueue (s : State) (e : Err) : (s.segFail e).hostQueue = s.hostQueue := rfl
@[simp] theorem State.segFail_reply (s : State) (e : Err) : (s.segFail e).reply = s.reply := rfl

/-! ### issue -/

@[simp] theorem State.issue_seq (s : State) (w : Word) : (s.issue w).seq = .busy := rfl
@[simp] theorem State.issue_done (s : State) (w : Word) : (s.issue w).done = false := rfl
@[simp] theorem State.issue_err (s : State) (w : Word) : (s.issue w).err = false := rfl
@[simp] theorem State.issue_ovr (s : State) (w : Word) : (s.issue w).ovr = s.ovr := rfl
@[simp] theorem State.issue_errCode (s : State) (w : Word) : (s.issue w).errCode = 0#4 := rfl
@[simp] theorem State.issue_errDetail (s : State) (w : Word) : (s.issue w).errDetail = 0#4 := rfl
@[simp] theorem State.issue_ie (s : State) (w : Word) : (s.issue w).ie = s.ie := rfl
@[simp] theorem State.issue_curCmd (s : State) (w : Word) : (s.issue w).curCmd = w := rfl
@[simp] theorem State.issue_curArg0 (s : State) (w : Word) : (s.issue w).curArg0 = s.arg0 := rfl
@[simp] theorem State.issue_curArg1 (s : State) (w : Word) : (s.issue w).curArg1 = s.arg1 := rfl
@[simp] theorem State.issue_curArg2 (s : State) (w : Word) : (s.issue w).curArg2 = s.arg2 := rfl
@[simp] theorem State.issue_arg0 (s : State) (w : Word) : (s.issue w).arg0 = s.arg0 := rfl
@[simp] theorem State.issue_arg1 (s : State) (w : Word) : (s.issue w).arg1 = s.arg1 := rfl
@[simp] theorem State.issue_arg2 (s : State) (w : Word) : (s.issue w).arg2 = s.arg2 := rfl
@[simp] theorem State.issue_res0 (s : State) (w : Word) : (s.issue w).res0 = s.res0 := rfl
@[simp] theorem State.issue_res1 (s : State) (w : Word) : (s.issue w).res1 = s.res1 := rfl
@[simp] theorem State.issue_errCnt (s : State) (w : Word) : (s.issue w).errCnt = s.errCnt := rfl
@[simp] theorem State.issue_errLoc (s : State) (w : Word) : (s.issue w).errLoc = s.errLoc := rfl
@[simp] theorem State.issue_errMag (s : State) (w : Word) : (s.issue w).errMag = s.errMag := rfl
@[simp] theorem State.issue_pr (s : State) (w : Word) : (s.issue w).pr = s.pr := rfl
@[simp] theorem State.issue_mem (s : State) (w : Word) : (s.issue w).mem = s.mem := rfl
@[simp] theorem State.issue_segActive (s : State) (w : Word) : (s.issue w).segActive = false := rfl
@[simp] theorem State.issue_seg (s : State) (w : Word) : (s.issue w).seg = SegRun.start := rfl
@[simp] theorem State.issue_rst (s : State) (w : Word) : (s.issue w).rst = s.rst := rfl
@[simp] theorem State.issue_epoch (s : State) (w : Word) : (s.issue w).epoch = s.epoch := rfl
@[simp] theorem State.issue_draws (s : State) (w : Word) : (s.issue w).draws = s.draws + 1 := rfl
@[simp] theorem State.issue_busyLeft (s : State) (w : Word) : (s.issue w).busyLeft = Config.busyAccesses s.draws := rfl
@[simp] theorem State.issue_hostQueue (s : State) (w : Word) : (s.issue w).hostQueue = s.hostQueue := rfl
@[simp] theorem State.issue_reply (s : State) (w : Word) : (s.issue w).reply = s.reply := rfl

/-! ### Reset -/

@[simp] theorem State.reset_seq : State.reset.seq = .idle := rfl
@[simp] theorem State.reset_done : State.reset.done = false := rfl
@[simp] theorem State.reset_err : State.reset.err = false := rfl
@[simp] theorem State.reset_ovr : State.reset.ovr = false := rfl
@[simp] theorem State.reset_errCode : State.reset.errCode = 0#4 := rfl
@[simp] theorem State.reset_errDetail : State.reset.errDetail = 0#4 := rfl
@[simp] theorem State.reset_ie : State.reset.ie = false := rfl
@[simp] theorem State.reset_curCmd : State.reset.curCmd = 0#32 := rfl
@[simp] theorem State.reset_curArg0 : State.reset.curArg0 = 0#32 := rfl
@[simp] theorem State.reset_curArg1 : State.reset.curArg1 = 0#32 := rfl
@[simp] theorem State.reset_curArg2 : State.reset.curArg2 = 0#32 := rfl
@[simp] theorem State.reset_arg0 : State.reset.arg0 = 0#32 := rfl
@[simp] theorem State.reset_arg1 : State.reset.arg1 = 0#32 := rfl
@[simp] theorem State.reset_arg2 : State.reset.arg2 = 0#32 := rfl
@[simp] theorem State.reset_res0 : State.reset.res0 = 0#32 := rfl
@[simp] theorem State.reset_res1 : State.reset.res1 = 0#32 := rfl
@[simp] theorem State.reset_errCnt : State.reset.errCnt = 0#8 := rfl
@[simp] theorem State.reset_errLoc : State.reset.errLoc = Vector.replicate 255 0#8 := rfl
@[simp] theorem State.reset_errMag : State.reset.errMag = Vector.replicate 255 0#8 := rfl
@[simp] theorem State.reset_pr : State.reset.pr = Vector.replicate 8 [0#8] := rfl
@[simp] theorem State.reset_mem : State.reset.mem = [] := rfl
@[simp] theorem State.reset_segActive : State.reset.segActive = false := rfl
@[simp] theorem State.reset_seg : State.reset.seg = SegRun.start := rfl
@[simp] theorem State.reset_rst : State.reset.rst = false := rfl
@[simp] theorem State.reset_epoch : State.reset.epoch = 0 := rfl
@[simp] theorem State.reset_draws : State.reset.draws = 0 := rfl
@[simp] theorem State.reset_busyLeft : State.reset.busyLeft = 0 := rfl
@[simp] theorem State.reset_hostQueue : State.reset.hostQueue = [] := rfl
@[simp] theorem State.reset_reply : State.reset.reply = none := rfl

/-- Asserting RST, field by field: the values of reset, but for the model's own (R321). -/
theorem State.setRst_true {s : State} (h : s.rst = false) :
    s.setRst true = { State.reset with rst := true, epoch := s.epoch + 1, draws := s.draws, hostQueue := s.hostQueue } := by
  simp only [State.setRst, h]; rfl

/-- Asserting RST while it is asserted changes nothing (log 6). -/
theorem State.setRst_held {s : State} (h : s.rst = true) : s.setRst true = s := by
  cases s; cases h; rfl

/-- Releasing RST changes nothing else (R321). -/
theorem State.setRst_false (s : State) : s.setRst false = { s with rst := false } := by
  unfold State.setRst; split <;> simp_all

/-! ### writeBytes and cwCorrect: everything but `mem` -/

/-- `writeBytes` writes the memory and nothing else. -/
theorem State.writeBytes_eq (s : State) (a : Nat) (bs : List Byte) :
    s.writeBytes a bs = { s with mem := (s.writeBytes a bs).mem } := by
  induction bs generalizing s a with
  | nil => rfl
  | cons v vs ih => rw [State.writeBytes, ih]; rfl

/-- `cwCorrect` writes the memory and nothing else. -/
theorem State.cwCorrect_eq (s : State) (a : Nat) (cs : List (Nat × Byte)) :
    s.cwCorrect a cs = { s with mem := (s.cwCorrect a cs).mem } := by
  induction cs generalizing s with
  | nil => rfl
  | cons c cs ih => rw [State.cwCorrect, ih]; rfl

@[simp] theorem State.writeBytes_seq (s : State) (a : Nat) (bs : List Byte) : (s.writeBytes a bs).seq = s.seq := by
  rw [State.writeBytes_eq]
@[simp] theorem State.writeBytes_done (s : State) (a : Nat) (bs : List Byte) : (s.writeBytes a bs).done = s.done := by
  rw [State.writeBytes_eq]
@[simp] theorem State.writeBytes_err (s : State) (a : Nat) (bs : List Byte) : (s.writeBytes a bs).err = s.err := by
  rw [State.writeBytes_eq]
@[simp] theorem State.writeBytes_ovr (s : State) (a : Nat) (bs : List Byte) : (s.writeBytes a bs).ovr = s.ovr := by
  rw [State.writeBytes_eq]
@[simp] theorem State.writeBytes_errCode (s : State) (a : Nat) (bs : List Byte) : (s.writeBytes a bs).errCode = s.errCode := by
  rw [State.writeBytes_eq]
@[simp] theorem State.writeBytes_errDetail (s : State) (a : Nat) (bs : List Byte) : (s.writeBytes a bs).errDetail = s.errDetail := by
  rw [State.writeBytes_eq]
@[simp] theorem State.writeBytes_ie (s : State) (a : Nat) (bs : List Byte) : (s.writeBytes a bs).ie = s.ie := by
  rw [State.writeBytes_eq]
@[simp] theorem State.writeBytes_curCmd (s : State) (a : Nat) (bs : List Byte) : (s.writeBytes a bs).curCmd = s.curCmd := by
  rw [State.writeBytes_eq]
@[simp] theorem State.writeBytes_curArg0 (s : State) (a : Nat) (bs : List Byte) : (s.writeBytes a bs).curArg0 = s.curArg0 := by
  rw [State.writeBytes_eq]
@[simp] theorem State.writeBytes_curArg1 (s : State) (a : Nat) (bs : List Byte) : (s.writeBytes a bs).curArg1 = s.curArg1 := by
  rw [State.writeBytes_eq]
@[simp] theorem State.writeBytes_curArg2 (s : State) (a : Nat) (bs : List Byte) : (s.writeBytes a bs).curArg2 = s.curArg2 := by
  rw [State.writeBytes_eq]
@[simp] theorem State.writeBytes_arg0 (s : State) (a : Nat) (bs : List Byte) : (s.writeBytes a bs).arg0 = s.arg0 := by
  rw [State.writeBytes_eq]
@[simp] theorem State.writeBytes_arg1 (s : State) (a : Nat) (bs : List Byte) : (s.writeBytes a bs).arg1 = s.arg1 := by
  rw [State.writeBytes_eq]
@[simp] theorem State.writeBytes_arg2 (s : State) (a : Nat) (bs : List Byte) : (s.writeBytes a bs).arg2 = s.arg2 := by
  rw [State.writeBytes_eq]
@[simp] theorem State.writeBytes_res0 (s : State) (a : Nat) (bs : List Byte) : (s.writeBytes a bs).res0 = s.res0 := by
  rw [State.writeBytes_eq]
@[simp] theorem State.writeBytes_res1 (s : State) (a : Nat) (bs : List Byte) : (s.writeBytes a bs).res1 = s.res1 := by
  rw [State.writeBytes_eq]
@[simp] theorem State.writeBytes_errCnt (s : State) (a : Nat) (bs : List Byte) : (s.writeBytes a bs).errCnt = s.errCnt := by
  rw [State.writeBytes_eq]
@[simp] theorem State.writeBytes_errLoc (s : State) (a : Nat) (bs : List Byte) : (s.writeBytes a bs).errLoc = s.errLoc := by
  rw [State.writeBytes_eq]
@[simp] theorem State.writeBytes_errMag (s : State) (a : Nat) (bs : List Byte) : (s.writeBytes a bs).errMag = s.errMag := by
  rw [State.writeBytes_eq]
@[simp] theorem State.writeBytes_pr (s : State) (a : Nat) (bs : List Byte) : (s.writeBytes a bs).pr = s.pr := by
  rw [State.writeBytes_eq]
@[simp] theorem State.writeBytes_segActive (s : State) (a : Nat) (bs : List Byte) : (s.writeBytes a bs).segActive = s.segActive := by
  rw [State.writeBytes_eq]
@[simp] theorem State.writeBytes_seg (s : State) (a : Nat) (bs : List Byte) : (s.writeBytes a bs).seg = s.seg := by
  rw [State.writeBytes_eq]
@[simp] theorem State.writeBytes_rst (s : State) (a : Nat) (bs : List Byte) : (s.writeBytes a bs).rst = s.rst := by
  rw [State.writeBytes_eq]
@[simp] theorem State.writeBytes_epoch (s : State) (a : Nat) (bs : List Byte) : (s.writeBytes a bs).epoch = s.epoch := by
  rw [State.writeBytes_eq]
@[simp] theorem State.writeBytes_draws (s : State) (a : Nat) (bs : List Byte) : (s.writeBytes a bs).draws = s.draws := by
  rw [State.writeBytes_eq]
@[simp] theorem State.writeBytes_busyLeft (s : State) (a : Nat) (bs : List Byte) : (s.writeBytes a bs).busyLeft = s.busyLeft := by
  rw [State.writeBytes_eq]
@[simp] theorem State.writeBytes_hostQueue (s : State) (a : Nat) (bs : List Byte) : (s.writeBytes a bs).hostQueue = s.hostQueue := by
  rw [State.writeBytes_eq]
@[simp] theorem State.writeBytes_reply (s : State) (a : Nat) (bs : List Byte) : (s.writeBytes a bs).reply = s.reply := by
  rw [State.writeBytes_eq]

@[simp] theorem State.cwWrite_seq (s : State) (a : Nat) (bs : List Byte) : (s.cwWrite a bs).seq = s.seq :=
  s.writeBytes_seq _ bs
@[simp] theorem State.cwWrite_done (s : State) (a : Nat) (bs : List Byte) : (s.cwWrite a bs).done = s.done :=
  s.writeBytes_done _ bs
@[simp] theorem State.cwWrite_err (s : State) (a : Nat) (bs : List Byte) : (s.cwWrite a bs).err = s.err :=
  s.writeBytes_err _ bs
@[simp] theorem State.cwWrite_ovr (s : State) (a : Nat) (bs : List Byte) : (s.cwWrite a bs).ovr = s.ovr :=
  s.writeBytes_ovr _ bs
@[simp] theorem State.cwWrite_errCode (s : State) (a : Nat) (bs : List Byte) : (s.cwWrite a bs).errCode = s.errCode :=
  s.writeBytes_errCode _ bs
@[simp] theorem State.cwWrite_errDetail (s : State) (a : Nat) (bs : List Byte) : (s.cwWrite a bs).errDetail = s.errDetail :=
  s.writeBytes_errDetail _ bs
@[simp] theorem State.cwWrite_ie (s : State) (a : Nat) (bs : List Byte) : (s.cwWrite a bs).ie = s.ie :=
  s.writeBytes_ie _ bs
@[simp] theorem State.cwWrite_curCmd (s : State) (a : Nat) (bs : List Byte) : (s.cwWrite a bs).curCmd = s.curCmd :=
  s.writeBytes_curCmd _ bs
@[simp] theorem State.cwWrite_curArg0 (s : State) (a : Nat) (bs : List Byte) : (s.cwWrite a bs).curArg0 = s.curArg0 :=
  s.writeBytes_curArg0 _ bs
@[simp] theorem State.cwWrite_curArg1 (s : State) (a : Nat) (bs : List Byte) : (s.cwWrite a bs).curArg1 = s.curArg1 :=
  s.writeBytes_curArg1 _ bs
@[simp] theorem State.cwWrite_curArg2 (s : State) (a : Nat) (bs : List Byte) : (s.cwWrite a bs).curArg2 = s.curArg2 :=
  s.writeBytes_curArg2 _ bs
@[simp] theorem State.cwWrite_arg0 (s : State) (a : Nat) (bs : List Byte) : (s.cwWrite a bs).arg0 = s.arg0 :=
  s.writeBytes_arg0 _ bs
@[simp] theorem State.cwWrite_arg1 (s : State) (a : Nat) (bs : List Byte) : (s.cwWrite a bs).arg1 = s.arg1 :=
  s.writeBytes_arg1 _ bs
@[simp] theorem State.cwWrite_arg2 (s : State) (a : Nat) (bs : List Byte) : (s.cwWrite a bs).arg2 = s.arg2 :=
  s.writeBytes_arg2 _ bs
@[simp] theorem State.cwWrite_res0 (s : State) (a : Nat) (bs : List Byte) : (s.cwWrite a bs).res0 = s.res0 :=
  s.writeBytes_res0 _ bs
@[simp] theorem State.cwWrite_res1 (s : State) (a : Nat) (bs : List Byte) : (s.cwWrite a bs).res1 = s.res1 :=
  s.writeBytes_res1 _ bs
@[simp] theorem State.cwWrite_errCnt (s : State) (a : Nat) (bs : List Byte) : (s.cwWrite a bs).errCnt = s.errCnt :=
  s.writeBytes_errCnt _ bs
@[simp] theorem State.cwWrite_errLoc (s : State) (a : Nat) (bs : List Byte) : (s.cwWrite a bs).errLoc = s.errLoc :=
  s.writeBytes_errLoc _ bs
@[simp] theorem State.cwWrite_errMag (s : State) (a : Nat) (bs : List Byte) : (s.cwWrite a bs).errMag = s.errMag :=
  s.writeBytes_errMag _ bs
@[simp] theorem State.cwWrite_pr (s : State) (a : Nat) (bs : List Byte) : (s.cwWrite a bs).pr = s.pr :=
  s.writeBytes_pr _ bs
@[simp] theorem State.cwWrite_segActive (s : State) (a : Nat) (bs : List Byte) : (s.cwWrite a bs).segActive = s.segActive :=
  s.writeBytes_segActive _ bs
@[simp] theorem State.cwWrite_seg (s : State) (a : Nat) (bs : List Byte) : (s.cwWrite a bs).seg = s.seg :=
  s.writeBytes_seg _ bs
@[simp] theorem State.cwWrite_rst (s : State) (a : Nat) (bs : List Byte) : (s.cwWrite a bs).rst = s.rst :=
  s.writeBytes_rst _ bs
@[simp] theorem State.cwWrite_epoch (s : State) (a : Nat) (bs : List Byte) : (s.cwWrite a bs).epoch = s.epoch :=
  s.writeBytes_epoch _ bs
@[simp] theorem State.cwWrite_draws (s : State) (a : Nat) (bs : List Byte) : (s.cwWrite a bs).draws = s.draws :=
  s.writeBytes_draws _ bs
@[simp] theorem State.cwWrite_busyLeft (s : State) (a : Nat) (bs : List Byte) : (s.cwWrite a bs).busyLeft = s.busyLeft :=
  s.writeBytes_busyLeft _ bs
@[simp] theorem State.cwWrite_hostQueue (s : State) (a : Nat) (bs : List Byte) : (s.cwWrite a bs).hostQueue = s.hostQueue :=
  s.writeBytes_hostQueue _ bs
@[simp] theorem State.cwWrite_reply (s : State) (a : Nat) (bs : List Byte) : (s.cwWrite a bs).reply = s.reply :=
  s.writeBytes_reply _ bs

@[simp] theorem State.cwCorrect_seq (s : State) (a : Nat) (cs : List (Nat × Byte)) : (s.cwCorrect a cs).seq = s.seq := by
  rw [State.cwCorrect_eq]
@[simp] theorem State.cwCorrect_done (s : State) (a : Nat) (cs : List (Nat × Byte)) : (s.cwCorrect a cs).done = s.done := by
  rw [State.cwCorrect_eq]
@[simp] theorem State.cwCorrect_err (s : State) (a : Nat) (cs : List (Nat × Byte)) : (s.cwCorrect a cs).err = s.err := by
  rw [State.cwCorrect_eq]
@[simp] theorem State.cwCorrect_ovr (s : State) (a : Nat) (cs : List (Nat × Byte)) : (s.cwCorrect a cs).ovr = s.ovr := by
  rw [State.cwCorrect_eq]
@[simp] theorem State.cwCorrect_errCode (s : State) (a : Nat) (cs : List (Nat × Byte)) : (s.cwCorrect a cs).errCode = s.errCode := by
  rw [State.cwCorrect_eq]
@[simp] theorem State.cwCorrect_errDetail (s : State) (a : Nat) (cs : List (Nat × Byte)) : (s.cwCorrect a cs).errDetail = s.errDetail := by
  rw [State.cwCorrect_eq]
@[simp] theorem State.cwCorrect_ie (s : State) (a : Nat) (cs : List (Nat × Byte)) : (s.cwCorrect a cs).ie = s.ie := by
  rw [State.cwCorrect_eq]
@[simp] theorem State.cwCorrect_curCmd (s : State) (a : Nat) (cs : List (Nat × Byte)) : (s.cwCorrect a cs).curCmd = s.curCmd := by
  rw [State.cwCorrect_eq]
@[simp] theorem State.cwCorrect_curArg0 (s : State) (a : Nat) (cs : List (Nat × Byte)) : (s.cwCorrect a cs).curArg0 = s.curArg0 := by
  rw [State.cwCorrect_eq]
@[simp] theorem State.cwCorrect_curArg1 (s : State) (a : Nat) (cs : List (Nat × Byte)) : (s.cwCorrect a cs).curArg1 = s.curArg1 := by
  rw [State.cwCorrect_eq]
@[simp] theorem State.cwCorrect_curArg2 (s : State) (a : Nat) (cs : List (Nat × Byte)) : (s.cwCorrect a cs).curArg2 = s.curArg2 := by
  rw [State.cwCorrect_eq]
@[simp] theorem State.cwCorrect_arg0 (s : State) (a : Nat) (cs : List (Nat × Byte)) : (s.cwCorrect a cs).arg0 = s.arg0 := by
  rw [State.cwCorrect_eq]
@[simp] theorem State.cwCorrect_arg1 (s : State) (a : Nat) (cs : List (Nat × Byte)) : (s.cwCorrect a cs).arg1 = s.arg1 := by
  rw [State.cwCorrect_eq]
@[simp] theorem State.cwCorrect_arg2 (s : State) (a : Nat) (cs : List (Nat × Byte)) : (s.cwCorrect a cs).arg2 = s.arg2 := by
  rw [State.cwCorrect_eq]
@[simp] theorem State.cwCorrect_res0 (s : State) (a : Nat) (cs : List (Nat × Byte)) : (s.cwCorrect a cs).res0 = s.res0 := by
  rw [State.cwCorrect_eq]
@[simp] theorem State.cwCorrect_res1 (s : State) (a : Nat) (cs : List (Nat × Byte)) : (s.cwCorrect a cs).res1 = s.res1 := by
  rw [State.cwCorrect_eq]
@[simp] theorem State.cwCorrect_errCnt (s : State) (a : Nat) (cs : List (Nat × Byte)) : (s.cwCorrect a cs).errCnt = s.errCnt := by
  rw [State.cwCorrect_eq]
@[simp] theorem State.cwCorrect_errLoc (s : State) (a : Nat) (cs : List (Nat × Byte)) : (s.cwCorrect a cs).errLoc = s.errLoc := by
  rw [State.cwCorrect_eq]
@[simp] theorem State.cwCorrect_errMag (s : State) (a : Nat) (cs : List (Nat × Byte)) : (s.cwCorrect a cs).errMag = s.errMag := by
  rw [State.cwCorrect_eq]
@[simp] theorem State.cwCorrect_pr (s : State) (a : Nat) (cs : List (Nat × Byte)) : (s.cwCorrect a cs).pr = s.pr := by
  rw [State.cwCorrect_eq]
@[simp] theorem State.cwCorrect_segActive (s : State) (a : Nat) (cs : List (Nat × Byte)) : (s.cwCorrect a cs).segActive = s.segActive := by
  rw [State.cwCorrect_eq]
@[simp] theorem State.cwCorrect_seg (s : State) (a : Nat) (cs : List (Nat × Byte)) : (s.cwCorrect a cs).seg = s.seg := by
  rw [State.cwCorrect_eq]
@[simp] theorem State.cwCorrect_rst (s : State) (a : Nat) (cs : List (Nat × Byte)) : (s.cwCorrect a cs).rst = s.rst := by
  rw [State.cwCorrect_eq]
@[simp] theorem State.cwCorrect_epoch (s : State) (a : Nat) (cs : List (Nat × Byte)) : (s.cwCorrect a cs).epoch = s.epoch := by
  rw [State.cwCorrect_eq]
@[simp] theorem State.cwCorrect_draws (s : State) (a : Nat) (cs : List (Nat × Byte)) : (s.cwCorrect a cs).draws = s.draws := by
  rw [State.cwCorrect_eq]
@[simp] theorem State.cwCorrect_busyLeft (s : State) (a : Nat) (cs : List (Nat × Byte)) : (s.cwCorrect a cs).busyLeft = s.busyLeft := by
  rw [State.cwCorrect_eq]
@[simp] theorem State.cwCorrect_hostQueue (s : State) (a : Nat) (cs : List (Nat × Byte)) : (s.cwCorrect a cs).hostQueue = s.hostQueue := by
  rw [State.cwCorrect_eq]
@[simp] theorem State.cwCorrect_reply (s : State) (a : Nat) (cs : List (Nat × Byte)) : (s.cwCorrect a cs).reply = s.reply := by
  rw [State.cwCorrect_eq]

/-! ### Polynomial registers -/

@[simp] theorem State.getPR_setPR (s : State) (i : PReg) (p : Poly) : (s.setPR i p).getPR i = p := by
  simp [State.getPR, State.setPR]

theorem State.getPR_setPR_ne (s : State) {i j : PReg} (p : Poly) (h : i ≠ j) : (s.setPR i p).getPR j = s.getPR j := by
  have : i.val ≠ j.val := fun e => h (Fin.ext e)
  simp [State.getPR, State.setPR, this]

theorem State.getPR_setPR_if (s : State) (i j : PReg) (p : Poly) :
    (s.setPR i p).getPR j = if i = j then p else s.getPR j := by
  by_cases h : i = j
  · subst h; simp
  · simp [h, s.getPR_setPR_ne p h]

/-- A register reads by `pr` alone. -/
theorem State.getPR_congr {s t : State} (h : t.pr = s.pr) (i : PReg) : t.getPR i = s.getPR i := by
  simp [State.getPR, h]

end Sys2Proof.Machine
end

