-- ==== Sys2Proof/Laws/Memory.lean ====
section
/-! SUPPORT. The memory: read after write, and the canonical form every operation keeps. -/

namespace Sys2Proof.Machine

/-- Read after write, at the same address and at any other. -/
theorem Memory.lookup_store (m : List Host.Cell) (a b : Nat) (v : Byte) :
    Memory.lookup (Memory.store m a v) b = if b = a then some v else Memory.lookup m b := by
  induction m with
  | nil => simp [Memory.store, Memory.lookup]
  | cons c m ih =>
    obtain ⟨k, x⟩ := c
    unfold Memory.store
    split
    · simp [Memory.lookup]
    · split
      · subst_vars
        simp only [Memory.lookup]
        split <;> rfl
      · simp only [Memory.lookup, ih]
        split
        · split <;> simp_all
        · rfl

/-- A stored cell is the new one or an old one. -/
theorem Memory.mem_store {m : List Host.Cell} {a : Nat} {v : Byte} {c : Host.Cell} (h : c ∈ Memory.store m a v) :
    c = (a, v) ∨ c ∈ m := by
  induction m with
  | nil => simpa [Memory.store] using h
  | cons d m ih =>
    unfold Memory.store at h
    split at h
    · simpa using h
    · split at h
      · rcases List.mem_cons.1 h with h | h
        · exact .inl h
        · exact .inr (List.mem_cons_of_mem _ h)
      · rcases List.mem_cons.1 h with h | h
        · exact .inr (h ▸ List.mem_cons_self ..)
        · exact (ih h).imp id (List.mem_cons_of_mem _)

/-- Reset lists nothing. -/
theorem State.reset_wf : Memory.wf State.reset.mem := List.Pairwise.nil

/-- A write keeps the canonical form. -/
theorem Memory.store_wf {m : List Host.Cell} (a : Nat) (v : Byte) (h : Memory.wf m) : Memory.wf (Memory.store m a v) := by
  induction m with
  | nil => simp [Memory.store, Memory.wf]
  | cons c m ih =>
    obtain ⟨k, x⟩ := c
    obtain ⟨hk, hm⟩ := List.pairwise_cons.1 h
    unfold Memory.store
    split
    · rename_i hlt
      refine List.pairwise_cons.2 ⟨fun d hd => ?_, h⟩
      rcases List.mem_cons.1 hd with rfl | hd
      · exact hlt
      · exact Nat.lt_trans hlt (hk d hd)
    · split
      · rename_i hlt heq
        subst heq
        exact List.pairwise_cons.2 ⟨hk, hm⟩
      · rename_i hlt hne
        refine List.pairwise_cons.2 ⟨fun d hd => ?_, ih hm⟩
        rcases Memory.mem_store hd with rfl | hd
        · exact Nat.lt_of_le_of_ne (Nat.le_of_not_lt hlt) (fun e => hne e.symm)
        · exact hk d hd

/-- Memory reads by `mem` and `epoch` alone. -/
theorem State.readByte_congr {s t : State} (hm : t.mem = s.mem) (he : t.epoch = s.epoch) (a : Nat) :
    t.readByte a = s.readByte a := by
  simp [State.readByte, hm, he]

theorem State.readByte_writeByte (s : State) (a b : Nat) (v : Byte) :
    (s.writeByte a v).readByte b = if b = a then v else s.readByte b := by
  simp only [State.readByte, State.writeByte, Memory.lookup_store]
  split <;> rfl

/-- A byte after writing a list: the list's entry, or what it was. -/
theorem State.readByte_writeBytes (s : State) (a b : Nat) (vs : List Byte) :
    (s.writeBytes a vs).readByte b
      = if a ≤ b ∧ b < a + vs.length then vs.getD (b - a) 0#8 else s.readByte b := by
  induction vs generalizing s a with
  | nil => rw [if_neg fun h => by simp only [List.length_nil] at h; omega]; rfl
  | cons v vs ih =>
    rw [State.writeBytes, ih, State.readByte_writeByte, List.length_cons]
    by_cases hb : b = a
    · rw [if_neg (by omega), if_pos hb, if_pos ⟨by omega, by omega⟩, hb, Nat.sub_self]; rfl
    · by_cases hr : a ≤ b ∧ b < a + (vs.length + 1)
      · rw [if_pos hr, if_pos ⟨by omega, by omega⟩, show b - a = (b - (a + 1)) + 1 by omega]; simp
      · rw [if_neg hr, if_neg (by omega), if_neg hb]

theorem State.writeBytes_wf {s : State} (a : Nat) (vs : List Byte) (h : Memory.wf s.mem) :
    Memory.wf (s.writeBytes a vs).mem := by
  induction vs generalizing s a with
  | nil => exact h
  | cons v vs ih => exact ih _ (Memory.store_wf a v h)

theorem State.cwCorrect_wf {s : State} (a : Nat) (cs : List (Nat × Byte)) (h : Memory.wf s.mem) :
    Memory.wf (s.cwCorrect a cs).mem := by
  induction cs generalizing s with
  | nil => exact h
  | cons c cs ih => exact ih (Memory.store_wf _ _ h)

/-- A cell present after writing a list is one of the list's addresses, or was there before. -/
theorem State.mem_writeBytes {s : State} {a : Nat} {vs : List Byte} {c : Host.Cell} (h : c ∈ (s.writeBytes a vs).mem) :
    (a ≤ c.1 ∧ c.1 < a + vs.length) ∨ c ∈ s.mem := by
  induction vs generalizing s a with
  | nil => exact .inr h
  | cons v vs ih =>
    rcases ih h with h | h
    · exact .inl ⟨by omega, by simp only [List.length_cons]; omega⟩
    · rcases Memory.mem_store h with rfl | h
      · exact .inl ⟨Nat.le_refl _, by simp only [List.length_cons]; omega⟩
      · exact .inr h

end Sys2Proof.Machine
end

