-- ==== Sys2Proof/Laws/Ops.lean ====
section
/-! SUPPORT. For each shared operation, once, everything it can do: how a command settles, what each operand check
answers, and which cases a step has. -/

namespace Sys2Proof.Machine

/-! ### Sameness -/

@[refl] theorem SameShell.refl (s : State) : SameShell s s := by simp [SameShell]
@[refl] theorem SameResults.refl (s : State) : SameResults s s := by simp [SameResults]
@[refl] theorem SameRs.refl (s : State) : SameRs s s := by simp [SameRs]
@[refl] theorem SamePR.refl (s : State) : SamePR s s := rfl
@[refl] theorem SameMem.refl (s : State) : SameMem s s := fun _ => rfl

theorem SameMem.of_mem {s t : State} (hm : t.mem = s.mem) (he : t.epoch = s.epoch) : SameMem s t :=
  fun a => State.readByte_congr hm he a

/-! ### How a command ends -/

@[simp] theorem State.settle_ok (s t : State) : s.settle (.ok t) = .next t.complete := rfl

@[simp] theorem State.settle_error (s : State) (e : Err) : s.settle (.error e) = .next (s.raise e) := rfl

/-- A command that settles answers a next state: its results completed, or its error raised. -/
theorem State.settle_cases {s u : State} {r : Except Err State} (h : s.settle r = .next u) :
    (∃ t, r = .ok t ∧ u = t.complete) ∨ (∃ e, r = .error e ∧ u = s.raise e) := by
  cases r with
  | ok t => exact .inl ⟨t, rfl, by simpa using h.symm⟩
  | error e => exact .inr ⟨e, rfl, by simpa using h.symm⟩

/-- Completing a state whose shell is that of `s` completes `s` (R291). -/
theorem State.complete_completed {s t : State} (h : SameShell s t) : Completed s t.complete := by
  simpa [Completed, SameShell] using h

/-- Raising an error writes nothing but STATUS (R291). -/
theorem State.raise_failedClean (s : State) (e : Err) : FailedClean e s (s.raise e) := by
  refine ⟨by simp [Failed, SameShell], by simp [SameResults], by simp [SameRs], by simp [SamePR], ?_⟩
  exact SameMem.of_mem (by simp) (by simp)

/-- An error inside SEG.DECODE zeroes the results and writes nothing else but STATUS (R245). -/
theorem State.segFail_failed (s : State) (e : Err) :
    Failed e s (s.segFail e) ∧ (s.segFail e).res0 = 0#32 ∧ (s.segFail e).res1 = 0#32
      ∧ SameRs s (s.segFail e) ∧ SamePR s (s.segFail e) ∧ SameMem s (s.segFail e) := by
  refine ⟨by simp [Failed, SameShell], by simp, by simp, by simp [SameRs], by simp [SamePR], ?_⟩
  exact SameMem.of_mem (by simp) (by simp)

/-! ### Operand checks -/

theorem fieldElement_eq (w : Word) :
    fieldElement w = if w.toNat < 256 then .ok (w.setWidth 8) else .error .notElement := rfl

theorem fieldElement_ofByte (b : Byte) : fieldElement (Word.ofByte b) = .ok b := by
  have h : b.toNat < 256 := b.isLt
  have ht : (Word.ofByte b).toNat < 256 := by simp [Word.ofByte]; omega
  rw [fieldElement_eq, if_pos ht]
  simp [Word.ofByte]

theorem atMost_eq (max : Nat) (w : Word) :
    atMost max w = if w.toNat ≤ max then .ok w.toNat else .error .operandRange := rfl

theorem byteCount_eq (w : Word) :
    byteCount w = if 1 ≤ w.toNat ∧ w.toNat ≤ 512 then .ok w.toNat else .error .operandRange := rfl

theorem cwbufRange_eq (w : Word) (n : Nat) :
    cwbufRange w n = if w.toNat + n ≤ 4096 then .ok w.toNat else .error .cwbufRange := rfl

theorem blockLength_eq (w : Word) :
    blockLength w = if 1 ≤ w.toNat ∧ w.toNat ≤ 255 then .ok w.toNat else .error .rsLength := rfl

theorem ecCount_eq (w : Word) (n : Nat) :
    ecCount w n = if w.toNat ≤ n then .ok w.toNat else .error .rsLength := rfl

theorem qrVersion_eq (w : Word) :
    qrVersion w = if 1 ≤ w.toNat ∧ w.toNat ≤ 40 then .ok w.toNat else .error .version := rfl

theorem distinct_eq (d e : PReg) : distinct d e = if d = e then .error .sameDestination else .ok () := rfl

theorem capacity_eq (p : Poly) : capacity p = if p.length ≤ 512 then .ok () else .error .polyCapacity := rfl

/-! ### Steps -/

/-- A step of the sequencer waits, runs the instruction it fetches, or completes with the error that there is none. -/
theorem sequencerStep_cases {s t : State} (h : sequencerStep s = .next t) :
    (s.seq = .idle ∧ t = s) ∨ (s.seq = .busy ∧ ∃ i, s.fetch = .ok i ∧ exec i s = .next t)
      ∨ (s.seq = .busy ∧ ∃ e, s.fetch = .error e ∧ t = s.fetchFail e) := by
  unfold sequencerStep at h
  cases hs : s.seq with
  | idle => rw [hs] at h; exact .inl ⟨rfl, by simpa using h.symm⟩
  | busy =>
    rw [hs] at h
    cases hf : s.fetch with
    | ok i => exact .inr (.inl ⟨rfl, i, rfl, by simpa [hf] using h⟩)
    | error e => exact .inr (.inr ⟨rfl, e, rfl, by simpa [hf] using h.symm⟩)

/-- A turn is the host's, for the first of its queue, or the sequencer's, the host's turn passed or not. -/
theorem State.turn_cases (s : State) :
    (∃ op rest, s.hostQueue = op :: rest ∧ op ≠ .pass ∧ (op.isAccess = true → s.hostMayMove = true)
      ∧ s.turn = .host (s.hostStep op rest))
      ∨ ∃ u, (u = s ∨ ∃ rest, s.hostQueue = .pass :: rest ∧ u = { s with hostQueue := rest }) ∧ s.turn = .sequencer u := by
  unfold State.turn
  cases hq : s.hostQueue with
  | nil => exact .inr ⟨s, .inl rfl, rfl⟩
  | cons op rest =>
    cases op with
    | pass => exact .inr ⟨_, .inr ⟨rest, rfl, rfl⟩, rfl⟩
    | rst asserted => exact .inl ⟨_, rest, rfl, by simp, by simp [HostOp.isAccess], rfl⟩
    | _ =>
      by_cases hm : s.hostMayMove = true
      · exact .inl ⟨_, rest, rfl, by simp, fun _ => hm, by simp [hm]⟩
      · exact .inr ⟨s, .inl rfl, by simp [hm]⟩

/-- A step is the host's next action, or a step of the sequencer. -/
theorem step_cases {s t : State} (h : step s = .next t) :
    (∃ op rest, s.hostQueue = op :: rest ∧ op ≠ .pass ∧ (op.isAccess = true → s.hostMayMove = true)
      ∧ t = s.hostStep op rest)
      ∨ ∃ u, (u = s ∨ ∃ rest, s.hostQueue = .pass :: rest ∧ u = { s with hostQueue := rest })
        ∧ sequencerStep u = .next t := by
  unfold step at h
  rcases s.turn_cases with ⟨op, rest, hq, hp, ha, ht⟩ | ⟨u, hu, ht⟩ <;> rw [ht] at h
  · exact .inl ⟨op, rest, hq, hp, ha, by simpa using h.symm⟩
  · exact .inr ⟨u, hu, h⟩

end Sys2Proof.Machine
end

