-- ==== Sys2Proof/Laws/Bus.lean ====
section
/-! SUPPORT. The host's accesses, case by case: RST asserted, a bus error, a read, a write while IDLE, a write while BUSY;
and whose turn a step is. -/

namespace Sys2Proof.Machine

/-- The host makes a bus access. -/
theorem step_access {s : State} {op : HostOp} {rest : List HostOp} (hq : s.hostQueue = op :: rest)
    (ha : op.isAccess = true) (hm : s.hostMayMove = true) : step s = .next (s.hostStep op rest) := by
  cases op <;> simp_all [step, State.turn, HostOp.isAccess]

/-- RST changes. -/
theorem step_rst {s : State} {asserted : Bool} {rest : List HostOp} (hq : s.hostQueue = .rst asserted :: rest) :
    step s = .next (({ s with hostQueue := rest } : State).setRst asserted) := by
  simp [step, State.turn, State.hostStep, hq]

/-- The host passes its turn. -/
theorem step_pass {s : State} {rest : List HostOp} (hq : s.hostQueue = .pass :: rest) :
    step s = sequencerStep { s with hostQueue := rest } := by
  simp [step, State.turn, hq]

/-- The sequencer's turn. -/
theorem step_sequencer {s : State} (h : s.SequencerTurn) : step s = sequencerStep s := by
  rcases h with h | ⟨op, rest, h, ha, hm⟩
  · simp [step, State.turn, h]
  · cases op <;> simp_all [step, State.turn, HostOp.isAccess]

/-- While RST is asserted the block is IDLE (R321). -/
theorem State.idle_of_held {s : State} (h : s.HeldOk) (hr : s.rst = true) : s.seq = .idle := by rw [h hr]; rfl

theorem State.hostMayMove_idle {s : State} (h : s.seq = .idle) : s.hostMayMove = true := by simp [State.hostMayMove, h]

theorem State.hostMayMove_busy {s : State} (h : s.seq = .busy) : s.hostMayMove = true ↔ s.busyLeft ≠ 0 := by
  simp [State.hostMayMove, h]

theorem State.countAccess_idle {s : State} (h : s.seq = .idle) : s.countAccess = s := by
  cases s; subst h; rfl

theorem State.hostRead_none {s : State} {w : Width} {off : Offset} (h : place w off = none) :
    s.hostRead w off = { s with reply := some busErrorReply } := by simp [State.hostRead, h]

/-- While IDLE, RST asserted or not, a read answers the value of its place (R71). -/
theorem State.hostRead_idle {s : State} {w : Width} {off : Offset} {p : Place} (h : place w off = some p)
    (hi : s.seq = .idle) :
    s.hostRead w off = { s with reply := some { busError := false, data := s.valueAt w p } } := by
  simp [State.hostRead, h, hi]

/-- While RST is asserted an accepted write changes nothing (R321). -/
theorem State.hostWrite_held {s : State} {w : Width} {off : Offset} {data : Word} {p : Place} (hr : s.rst = true)
    (h : place w off = some p) (hi : s.seq = .idle) : s.hostWrite w off data = { s with reply := some writeReply } := by
  simp [State.hostWrite, hr, h, hi]

theorem State.hostWrite_none {s : State} {w : Width} {off : Offset} {data : Word} (h : place w off = none) :
    s.hostWrite w off data = { s with reply := some busErrorReply } := by simp [State.hostWrite, h]

theorem State.hostWrite_idle {s : State} {w : Width} {off : Offset} {data : Word} {p : Place} (hr : s.rst = false)
    (h : place w off = some p) (hi : s.seq = .idle) : s.hostWrite w off data = { s.writePlace w data p with reply := some writeReply } := by
  simp [State.hostWrite, hr, h, hi]

theorem State.hostWrite_busy {s : State} {w : Width} {off : Offset} {data : Word} {p : Place}
    (h : place w off = some p) (hb : s.seq = .busy) : s.hostWrite w off data = { s.writePlaceBusy p with reply := some writeReply } := by
  simp [State.hostWrite, h, hb]

end Sys2Proof.Machine
end

