-- ==== Sys2Proof/Laws/PerInstr.lean ====
section
/-! SUPPORT. A statement about the syntax of every instruction, one lemma a constructor. -/

set_option Elab.async false

namespace Sys2Proof.Laws.EncodesCleanly

/-- An instruction's code is a mode indicator exactly when the instruction is one, and a command word sets no bit outside
those the instruction uses and no reserved bit (30_encoding.md R92, R97). -/
def Statement (i : Instr) : Prop :=
  match encode i with
  | .command w => i.isMode = false ∧ w &&& ~~~(usedBits i) = 0#32 ∧ w &&& reservedMask = 0#32
  | .indicator _ => i.isMode = true

/-- A command word built from fields the instruction uses is clean: read off the word's bits, field by field. -/
theorem of_word {i : Instr} {w : Word} (he : encode i = .command w) (hm : i.isMode = false)
    (hu : w &&& ~~~(usedBits i) = 0#32) (hr : w &&& reservedMask = 0#32) : Statement i := by
  unfold Statement
  rw [he]
  exact ⟨hm, hu, hr⟩

theorem nop : Statement .nop := of_word rfl rfl (by decide) (by decide)
theorem clr : Statement .clr := of_word rfl rfl (by decide) (by decide)
theorem gfAdd : Statement .gfAdd := of_word rfl rfl (by decide) (by decide)
theorem gfMul : Statement .gfMul := of_word rfl rfl (by decide) (by decide)
theorem gfInv : Statement .gfInv := of_word rfl rfl (by decide) (by decide)
theorem gfExp : Statement .gfExp := of_word rfl rfl (by decide) (by decide)
theorem gfLog : Statement .gfLog := of_word rfl rfl (by decide) (by decide)
theorem polyLoad (d : PReg) : Statement (.polyLoad d) :=
  of_word rfl rfl (by revert d; decide +kernel) (by revert d; decide +kernel)
theorem polyStore (a : PReg) : Statement (.polyStore a) :=
  of_word rfl rfl (by revert a; decide +kernel) (by revert a; decide +kernel)
theorem polyMono (d : PReg) : Statement (.polyMono d) :=
  of_word rfl rfl (by revert d; decide +kernel) (by revert d; decide +kernel)
theorem polyAdd (d a b : PReg) : Statement (.polyAdd d a b) :=
  of_word rfl rfl (by revert d a b; decide +kernel) (by revert d a b; decide +kernel)
theorem polyMul (d a b : PReg) : Statement (.polyMul d a b) :=
  of_word rfl rfl (by revert d a b; decide +kernel) (by revert d a b; decide +kernel)
theorem polyScale (d a : PReg) : Statement (.polyScale d a) :=
  of_word rfl rfl (by revert d a; decide +kernel) (by revert d a; decide +kernel)
theorem polyShift (d a : PReg) : Statement (.polyShift d a) :=
  of_word rfl rfl (by revert d a; decide +kernel) (by revert d a; decide +kernel)
theorem polyDiv (d e a b : PReg) : Statement (.polyDiv d e a b) :=
  of_word rfl rfl (by revert d e a b; decide +kernel) (by revert d e a b; decide +kernel)
theorem polyEval (a : PReg) : Statement (.polyEval a) :=
  of_word rfl rfl (by revert a; decide +kernel) (by revert a; decide +kernel)
theorem polyDeg (a : PReg) : Statement (.polyDeg a) :=
  of_word rfl rfl (by revert a; decide +kernel) (by revert a; decide +kernel)
theorem polyCoef (a : PReg) : Statement (.polyCoef a) :=
  of_word rfl rfl (by revert a; decide +kernel) (by revert a; decide +kernel)
theorem rsSynd (d : PReg) : Statement (.rsSynd d) :=
  of_word rfl rfl (by revert d; decide +kernel) (by revert d; decide +kernel)
theorem rsEuclid (d e a : PReg) : Statement (.rsEuclid d e a) :=
  of_word rfl rfl (by revert d e a; decide +kernel) (by revert d e a; decide +kernel)
theorem rsChien (a : PReg) : Statement (.rsChien a) :=
  of_word rfl rfl (by revert a; decide +kernel) (by revert a; decide +kernel)
theorem rsForney (a : PReg) : Statement (.rsForney a) :=
  of_word rfl rfl (by revert a; decide +kernel) (by revert a; decide +kernel)
theorem rsApply : Statement .rsApply := of_word rfl rfl (by decide) (by decide)
theorem rsDecode : Statement .rsDecode := of_word rfl rfl (by decide) (by decide)
theorem segDecode : Statement .segDecode := of_word rfl rfl (by decide) (by decide)
theorem segCcb : Statement .segCcb := of_word rfl rfl (by decide) (by decide)
theorem segAlnum : Statement .segAlnum := of_word rfl rfl (by decide) (by decide)
theorem segKanji : Statement .segKanji := of_word rfl rfl (by decide) (by decide)
theorem segEci : Statement .segEci := of_word rfl rfl (by decide) (by decide)
theorem modeTerminator : Statement .modeTerminator := rfl
theorem modeNumeric : Statement .modeNumeric := rfl
theorem modeAlphanumeric : Statement .modeAlphanumeric := rfl
theorem modeByte : Statement .modeByte := rfl
theorem modeEci : Statement .modeEci := rfl
theorem modeKanji : Statement .modeKanji := rfl

end Sys2Proof.Laws.EncodesCleanly
end

