-- ==== Sys2Proof/Laws/Poly.lean ====
section
/-! SUPPORT. The lengths of what the polynomial functions answer, and the tests on zero. -/

namespace Sys2Proof.Machine

theorem isZero_iff (p : Poly) : isZero p = true ↔ p = [0#8] := by simp [isZero]

theorem norm_length_pos (c : List Byte) : 1 ≤ (norm c).length := by
  induction c using norm.induct with
  | case1 => simp [norm]
  | case2 c => simp [norm]
  | case3 d cs ih => simpa [norm] using ih
  | case4 c d cs h => simp [norm, h]

/-- Normalizing never lengthens a list that is not empty. -/
theorem norm_length_le {c : List Byte} (h : c ≠ []) : (norm c).length ≤ c.length := by
  induction c using norm.induct with
  | case1 => exact absurd rfl h
  | case2 c => simp [norm]
  | case3 d cs ih =>
    have := ih (by simp)
    simp only [norm, if_true, List.length_cons] at this ⊢
    omega
  | case4 c d cs hc => simp [norm, hc]

theorem xorAligned_length (a b : List Byte) : (xorAligned a b).length = max a.length b.length := by
  unfold xorAligned
  by_cases h : a.length < b.length <;> simp [h] <;> omega

theorem convolve_length (a b : List Byte) (hb : b ≠ []) : (convolve a b).length = a.length + b.length - 1 := by
  have h1 : 1 ≤ b.length := List.length_pos_iff.2 hb
  induction a with
  | nil => simp [convolve]
  | cons c cs ih => simp [convolve, xorAligned_length, ih]; omega

theorem mono_length (d : Nat) (c : Byte) : (mono d c).length = if c = 0#8 then 1 else d + 1 := by
  unfold mono
  split <;> simp

end Sys2Proof.Machine
end

