-- ==== Sys2Proof/Laws/Segment.lean ====
section
/-! SUPPORT. The bit reader and the one operation behind the four data modes: everything each can do. -/

namespace Sys2Proof.Machine

theorem State.readField_eq (s : State) (pos w : Nat) :
    s.readField pos w = if s.avail pos < w then .error .pastEnd else .ok (s.streamField pos w) := rfl

theorem State.streamField_lt (s : State) (pos w : Nat) : s.streamField pos w < 2 ^ w := by
  induction w with
  | zero => simp [State.streamField]
  | succ w ih =>
    have hb : (s.streamBit (pos + w)).toNat ≤ 1 := Bool.toNat_le _
    rw [State.streamField, Nat.pow_succ]
    omega

/-- The stream is read from the input alone: its place, and its bytes. -/
theorem State.streamBit_congr {s t : State} (ha : t.curArg0 = s.curArg0) (hm : SameMem s t) (j : Nat) :
    t.streamBit j = s.streamBit j := by
  simp only [State.streamBit, ha, hm _]

@[simp] theorem Chars.after_error (e : Err) (rest : Chars) : Chars.after (.error e) rest = { out := [], last := .error e } := rfl

@[simp] theorem Chars.after_ok (bs : List Byte) (rest : Chars) :
    Chars.after (.ok bs) rest = { out := bs ++ rest.out, last := rest.last } := rfl

/-- A data segment fails in its count field, fails in its characters with the bytes before them emitted, or ends in its
record (R230, R245). -/
theorem State.dataSegment_cases (s : State) (m : SegMode) :
    (∃ e, s.readField (s.seg.pos + 4) (ccb m s.curArg2.toNat) = .error e ∧ s.dataSegment m = s.segFail e)
      ∨ ∃ count, s.readField (s.seg.pos + 4) (ccb m s.curArg2.toNat) = .ok count ∧
        let c := s.segChars m count (s.seg.pos + 4 + ccb m s.curArg2.toNat)
        (∃ e, c.last = .error e ∧ s.dataSegment m = (s.writeBytes (outbufAddr s.seg.nout) c.out).segFail e)
          ∨ ∃ pos, c.last = .ok pos
            ∧ s.dataSegment m = (s.writeBytes (outbufAddr s.seg.nout) c.out).segRecord m count pos c.out.length := by
  simp only [State.dataSegment]
  cases hf : s.readField (s.seg.pos + 4) (ccb m s.curArg2.toNat) with
  | error e => exact .inl ⟨e, rfl, rfl⟩
  | ok count =>
    refine .inr ⟨count, rfl, ?_⟩
    cases h : (s.segChars m count (s.seg.pos + 4 + ccb m s.curArg2.toNat)).last with
    | error e => exact .inl ⟨e, rfl, by simp [h]⟩
    | ok pos => exact .inr ⟨pos, rfl, by simp [h]⟩

end Sys2Proof.Machine
end

