-- ==== Sys2Proof/Tests/Slice0.lean ====
section
/-! SUPPORT. Small tests: words written out bit by bit from the spec's encoding, vectors of spec/95_test_vectors.md run
for one step, and for each statement with hypotheses a witness that meets them. -/

set_option Elab.async false

namespace Sys2Proof.Tests

open Sys2Proof Sys2Proof.Machine

/-! ### Helpers -/

/-- Reset, these bytes at CWBUF[0], the word `w` just issued with these operands, the host waiting. -/
def issued (bytes : List Byte) (a0 a1 a2 : Word) (w : Nat) : State :=
  { State.reset.cwWrite 0 bytes with arg0 := a0, arg1 := a1, arg2 := a2 }.withFetchWord 32 w

/-- The state after one step. -/
def after (s : State) : State :=
  match step s with
  | .next t => t
  | _ => s

/-- STATUS after one step of the word `w` with these operands and no bytes. -/
def st (w : Nat) (a0 a1 a2 : Word) : Nat := (after (issued [] a0 a1 a2 w)).statusWord.toNat

/-- RES0 after the same step. -/
def r0 (w : Nat) (a0 a1 : Word) : Nat := (after (issued [] a0 a1 0#32 w)).res0.toNat

/-- A SEG.DECODE of version `v` in progress on these bytes at CWBUF[0]. -/
def inSegment (bytes : List Byte) (v : Word) (run : SegRun) : State :=
  { issued bytes 0#32 (BitVec.ofNat 32 bytes.length) v 0x40 with segActive := true, seg := run }

/-- IDLE, with these accesses to come. -/
def idleHost (ops : List HostOp) : State := { State.reset with hostQueue := ops }

/-- BUSY with NOP, two more accesses let in, these to come. -/
def busyHost (ops : List HostOp) : State := { issued [] 0#32 0#32 0#32 0 with hostQueue := ops, busyLeft := 2 }

/-- 95_test_vectors.md RS-1: the clean block. -/
def rs1 : List Byte :=
  [ 0x40#8, 0x54#8, 0x84#8, 0x54#8, 0xC4#8, 0xC4#8, 0xF0#8, 0xEC#8, 0x11#8, 0xEC#8, 0x11#8, 0xEC#8, 0x11#8 ] ++
  [ 0xEC#8, 0x11#8, 0xEC#8, 0x11#8, 0xEC#8, 0x11#8, 0x4D#8, 0x2A#8, 0xD3#8, 0xBB#8, 0x9F#8, 0x20#8, 0x84#8 ]

/-! ### Well-formedness: one ill-formed term a check -/

theorem test_polyDiv_equal_destinations_ill_formed : (Instr.polyDiv 1 1 0 2).wellFormed = false := rfl
theorem test_rsEuclid_equal_destinations_ill_formed : (Instr.rsEuclid 2 2 0).wellFormed = false := rfl
theorem test_polyDiv_well_formed : (Instr.polyDiv 3 4 2 0).wellFormed = true := rfl

/-- 95_test_vectors.md 2.5: 0x00110127 decodes, and running it is ARGUMENT 5 (STATUS 0x5406). -/
theorem test_ill_formed_word_runs : decode 0x00110127#32 = .ok (.polyDiv 1 1 0 1) ∧ st 0x00110127 0#32 0#32 0#32 = 0x5406 :=
  ⟨rfl, by decide +kernel⟩

/-! ### Decoding: words written out field by field, `reserved E 0 B 0 A 0 D opcode` (30_encoding.md R92, R93) -/

theorem test_decode_nop : decode 0b000000000_111_0_111_0_111_0_111_00000000#32 = .ok .nop := rfl
theorem test_decode_clr : decode 0b000000000_111_0_111_0_111_0_111_00000001#32 = .ok .clr := rfl
theorem test_decode_gfAdd : decode 0b000000000_111_0_111_0_111_0_111_00010000#32 = .ok .gfAdd := rfl
theorem test_decode_gfMul : decode 0b000000000_111_0_111_0_111_0_111_00010001#32 = .ok .gfMul := rfl
theorem test_decode_gfInv : decode 0b000000000_111_0_111_0_111_0_111_00010010#32 = .ok .gfInv := rfl
theorem test_decode_gfExp : decode 0b000000000_111_0_111_0_111_0_111_00010011#32 = .ok .gfExp := rfl
theorem test_decode_gfLog : decode 0b000000000_111_0_111_0_111_0_111_00010100#32 = .ok .gfLog := rfl
theorem test_decode_polyLoad : decode 0b000000000_111_0_111_0_111_0_101_00100000#32 = .ok (.polyLoad 5) := rfl
theorem test_decode_polyStore : decode 0b000000000_111_0_111_0_110_0_111_00100001#32 = .ok (.polyStore 6) := rfl
theorem test_decode_polyMono : decode 0b000000000_111_0_111_0_111_0_101_00100010#32 = .ok (.polyMono 5) := rfl
theorem test_decode_polyAdd : decode 0b000000000_111_0_011_0_110_0_101_00100011#32 = .ok (.polyAdd 5 6 3) := rfl
theorem test_decode_polyMul : decode 0b000000000_111_0_011_0_110_0_101_00100100#32 = .ok (.polyMul 5 6 3) := rfl
theorem test_decode_polyScale : decode 0b000000000_111_0_111_0_110_0_101_00100101#32 = .ok (.polyScale 5 6) := rfl
theorem test_decode_polyShift : decode 0b000000000_111_0_111_0_110_0_101_00100110#32 = .ok (.polyShift 5 6) := rfl
theorem test_decode_polyDiv : decode 0b000000000_001_0_011_0_110_0_101_00100111#32 = .ok (.polyDiv 5 1 6 3) := rfl
theorem test_decode_polyEval : decode 0b000000000_111_0_111_0_110_0_111_00101000#32 = .ok (.polyEval 6) := rfl
theorem test_decode_polyDeg : decode 0b000000000_111_0_111_0_110_0_111_00101001#32 = .ok (.polyDeg 6) := rfl
theorem test_decode_polyCoef : decode 0b000000000_111_0_111_0_110_0_111_00101010#32 = .ok (.polyCoef 6) := rfl
theorem test_decode_rsSynd : decode 0b000000000_111_0_111_0_111_0_101_00110000#32 = .ok (.rsSynd 5) := rfl
theorem test_decode_rsEuclid : decode 0b000000000_001_0_111_0_110_0_101_00110001#32 = .ok (.rsEuclid 5 1 6) := rfl
theorem test_decode_rsChien : decode 0b000000000_111_0_111_0_110_0_111_00110010#32 = .ok (.rsChien 6) := rfl
theorem test_decode_rsForney : decode 0b000000000_111_0_111_0_110_0_111_00110011#32 = .ok (.rsForney 6) := rfl
theorem test_decode_rsApply : decode 0b000000000_111_0_111_0_111_0_111_00110100#32 = .ok .rsApply := rfl
theorem test_decode_rsDecode : decode 0b000000000_111_0_111_0_111_0_111_00110101#32 = .ok .rsDecode := rfl
theorem test_decode_segDecode : decode 0b000000000_111_0_111_0_111_0_111_01000000#32 = .ok .segDecode := rfl
theorem test_decode_segCcb : decode 0b000000000_111_0_111_0_111_0_111_01000001#32 = .ok .segCcb := rfl
theorem test_decode_segAlnum : decode 0b000000000_111_0_111_0_111_0_111_01000010#32 = .ok .segAlnum := rfl
theorem test_decode_segKanji : decode 0b000000000_111_0_111_0_111_0_111_01000011#32 = .ok .segKanji := rfl
theorem test_decode_segEci : decode 0b000000000_111_0_111_0_111_0_111_01000100#32 = .ok .segEci := rfl

theorem test_decode_modeTerminator : decodeMode 0b0000#4 = .ok .modeTerminator := rfl
theorem test_decode_modeNumeric : decodeMode 0b0001#4 = .ok .modeNumeric := rfl
theorem test_decode_modeAlphanumeric : decodeMode 0b0010#4 = .ok .modeAlphanumeric := rfl
theorem test_decode_modeByte : decodeMode 0b0100#4 = .ok .modeByte := rfl
theorem test_decode_modeEci : decodeMode 0b0111#4 = .ok .modeEci := rfl
theorem test_decode_modeKanji : decodeMode 0b1000#4 = .ok .modeKanji := rfl

/-- The bits of 0x11 with each reserved bit set in turn: ILLEGAL 2 (R96). -/
theorem test_reserved_bits :
    [11, 15, 19, 23, 24, 25, 26, 27, 28, 29, 30, 31].all (fun k => st (0x11 + 2 ^ k) 0#32 0#32 0#32 = 0x2506) = true := by
  decide +kernel

/-- 95_test_vectors.md 2.5: 0xFF, and 0x815 with an undefined opcode and bit 11: ILLEGAL 1. -/
theorem test_undefined_opcodes : st 0xFF 0#32 0#32 0#32 = 0x1506 ∧ st 0x815 0#32 0#32 0#32 = 0x1506 := by decide +kernel

/-! ### Control -/

/-- 95_test_vectors.md 2.5. -/
theorem test_nop : st 0 5#32 6#32 7#32 = 2 := by decide +kernel

/-- 44_control.md R272. -/
theorem test_clr :
    let t := after { issued [0x11#8] 0#32 0#32 0#32 1 with res0 := 9#32, errCnt := 3#8, pr := Vector.replicate 8 [7#8, 9#8] }
    t.res0 = 0#32 ∧ t.errCnt = 0#8 ∧ t.getPR 7 = [0#8] ∧ t.readByte 0x1000 = 0x11#8 := by decide +kernel

/-! ### GF(256): 95_test_vectors.md 2.1 -/

theorem test_gfAdd : r0 0x10 0x53#32 0xCA#32 = 0x99 ∧ st 0x10 0x100#32 0#32 0#32 = 0x2306 ∧ st 0x10 255#32 256#32 0#32 = 0x2306 := by
  decide +kernel
theorem test_gfMul : r0 0x11 2#32 0x80#32 = 0x1D ∧ r0 0x11 0#32 0xFF#32 = 0 ∧ r0 0x11 0x53#32 0xCA#32 = 0x8F := by
  decide +kernel
theorem test_gfInv : r0 0x12 2#32 0#32 = 0x8E ∧ r0 0x12 1#32 0#32 = 1 ∧ r0 0x12 0xCA#32 0#32 = 0x62 := by decide +kernel
theorem test_gfInv_errors : st 0x12 0#32 0#32 0#32 = 0x1306 ∧ st 0x12 0xFFFFFFFF#32 0#32 0#32 = 0x2306 := by decide +kernel
theorem test_gfExp : [0#32, 8#32, 25#32, 255#32].map (r0 0x13 · 0#32) = [1, 0x1D, 3, 1] ∧ st 0x13 256#32 0#32 0#32 = 0x6406 := by
  decide +kernel
theorem test_gfLog : [1#32, 3#32, 0x1D#32, 0x8E#32].map (r0 0x14 · 0#32) = [0, 25, 8, 254] ∧ st 0x14 0#32 0#32 0#32 = 0x1306 := by
  decide +kernel

/-! ### Polynomials: 95_test_vectors.md 2.2 -/

theorem test_poly_functions :
    norm [0#8, 0#8, 5#8, 0#8] = [5#8, 0#8] ∧ mono 3 0x1D#8 = [0x1D#8, 0#8, 0#8, 0#8] ∧ padd [1#8, 2#8] [1#8, 3#8] = [1#8]
      ∧ pmul [1#8, 2#8] [1#8, 3#8] = [1#8, 1#8, 6#8] ∧ pscale [0x80#8, 1#8] 2#8 = [0x1D#8, 2#8]
      ∧ pshift [1#8, 2#8] 2 3#8 = [3#8, 6#8, 0#8, 0#8] ∧ peval [0x40#8, 0x54#8, 0x84#8] 2#8 = 0x31#8 := by decide +kernel

theorem test_pdiv :
    (pdiv [1#8, 0#8, 0#8, 0#8] [1#8, 2#8]).toOption = some ([1#8, 2#8, 4#8], [8#8])
      ∧ (pdiv [1#8, 2#8] [7#8]).toOption = some ([0xBA#8, 0x69#8], [0#8])
      ∧ (pdiv [5#8] [1#8, 2#8]).toOption = some ([0#8], [5#8]) := by decide +kernel

theorem test_polyLoad :
    let t := after (issued [0#8, 0#8, 5#8, 0#8] 0#32 4#32 0#32 0x220)
    t.getPR 2 = [5#8, 0#8] ∧ t.res0 = 1#32 ∧ t.statusWord = 2#32 := by decide +kernel
theorem test_polyLoad_bounds :
    st 0x20 0#32 0#32 0#32 = 0x6406 ∧ st 0x20 0#32 1#32 0#32 = 2 ∧ st 0x20 3584#32 512#32 0#32 = 2
      ∧ st 0x20 3585#32 512#32 0#32 = 0x1406 ∧ st 0x20 0#32 513#32 0#32 = 0x6406 ∧ st 0x20 4095#32 2#32 0#32 = 0x1406 := by
  decide +kernel

theorem test_polyStore :
    let t := after { issued [] 16#32 0#32 0#32 0x3021 with pr := Vector.replicate 8 [1#8, 3#8] }
    t.readByte 0x1010 = 1#8 ∧ t.readByte 0x1011 = 3#8 ∧ t.res0 = 2#32 := by decide +kernel
theorem test_polyStore_bounds : st 0x21 4095#32 0#32 0#32 = 2 ∧ st 0x21 4096#32 0#32 0#32 = 0x1406 := by decide +kernel

theorem test_polyMono : (after (issued [] 3#32 0x1D#32 0#32 0x122)).getPR 1 = [0x1D#8, 0#8, 0#8, 0#8] := by decide +kernel
theorem test_polyMono_bounds :
    st 0x22 511#32 255#32 0#32 = 2 ∧ st 0x22 512#32 256#32 0#32 = 0x6406 ∧ st 0x22 511#32 256#32 0#32 = 0x2306 := by
  decide +kernel

/-- [1 2] in every register but PR1 = [1 3], the word `w` issued. -/
def withPolys (a0 a1 : Word) (w : Nat) : State :=
  (issued [] a0 a1 0#32 w |> fun s => { s with pr := (Vector.replicate 8 [1#8, 2#8]).set 1 [1#8, 3#8] })

theorem test_polyAdd : (after (withPolys 0#32 0#32 0x10223)).getPR 2 = [1#8] := by decide +kernel
theorem test_polyMul : (after (withPolys 0#32 0#32 0x10024)).getPR 0 = [1#8, 1#8, 6#8] := by decide +kernel
/-- R157: degrees 511 and 1 would give 513 coefficients, 510 and 1 give 512. -/
theorem test_polyMul_capacity :
    let s (d : Nat) := { issued [] 0#32 0#32 0#32 0x10224 with pr := (Vector.replicate 8 [1#8, 0#8]).set 1 (mono d 1#8) }
    (after (s 511)).statusWord = 0x4406#32 ∧ (after (s 510)).statusWord = 2#32 := by decide +kernel
theorem test_polyScale : (after (withPolys 3#32 0#32 0x1225)).getPR 2 = [3#8, 5#8] ∧ st 0x25 256#32 0#32 0#32 = 0x2306 := by
  decide +kernel
theorem test_polyShift : (after (withPolys 2#32 3#32 0x226)).getPR 2 = [3#8, 6#8, 0#8, 0#8] := by decide +kernel
theorem test_polyShift_bounds :
    st 0x26 511#32 1#32 0#32 = 2 ∧ st 0x26 512#32 1#32 0#32 = 0x6406 ∧ st 0x26 1#32 256#32 0#32 = 0x2306
      ∧ (after (withPolys 511#32 1#32 0x226)).statusWord = 0x4406#32
      ∧ (after (withPolys 510#32 1#32 0x226)).statusWord = 2#32 := by decide +kernel

/-- 95_test_vectors.md P2: [1 1 6] ÷ [1 2] is [1 3], remainder [0]. -/
theorem test_polyDiv :
    let t := after { withPolys 0#32 0#32 0x00402327 with pr := (Vector.replicate 8 [1#8, 2#8]).set 2 [1#8, 1#8, 6#8] }
    t.getPR 3 = [1#8, 3#8] ∧ t.getPR 4 = [0#8] ∧ t.statusWord = 2#32 := by decide +kernel
theorem test_polyDiv_by_zero : st 0x00402327 0#32 0#32 0#32 = 0x3306 := by decide +kernel

theorem test_polyEval :
    let s (x : Word) := { issued [] x 0#32 0#32 0x28 with pr := Vector.replicate 8 [1#8, 2#8, 3#8] }
    [0#32, 1#32, 2#32].map (fun x => (after (s x)).res0) = [3#32, 0#32, 3#32] ∧ st 0x28 256#32 0#32 0#32 = 0x2306 := by
  decide +kernel
theorem test_polyDeg : let t := after (issued [] 0#32 0#32 0#32 0x29); t.res0 = 0#32 ∧ t.res1 = 1#32 := by decide +kernel
theorem test_polyCoef :
    (after (withPolys 0xFFFFFFFF#32 0#32 0x2A)).res0 = 0#32 ∧ (after (withPolys 1#32 0#32 0x2A)).res0 = 1#32
      ∧ (after (withPolys 0#32 0#32 0x2A)).res0 = 2#32 := by decide +kernel

/-! ### Reed-Solomon: 95_test_vectors.md 2.3 -/

/-- RS-3: byte 25 XORed with 01 gives seven syndromes of 01. -/
theorem test_rsSynd :
    let t := after (issued (rs1.set 25 0x85#8) 0#32 26#32 7#32 0x30)
    t.getPR 0 = List.replicate 7 1#8 ∧ t.res0 = 0#32 := by decide +kernel
theorem test_rsSynd_bounds :
    st 0x30 0#32 0#32 0#32 = 0x2406 ∧ st 0x30 0#32 256#32 7#32 = 0x2406 ∧ st 0x30 0#32 6#32 7#32 = 0x2406
      ∧ st 0x30 4090#32 7#32 7#32 = 0x1406 ∧ st 0x30 4089#32 7#32 7#32 = 2 ∧ st 0x30 3841#32 255#32 255#32 = 2 := by
  decide +kernel

/-- RS-2, as in P4. -/
theorem test_rsEuclid :
    let t := after { issued [] 7#32 0#32 0#32 0x00200131 with
      pr := Vector.replicate 8 [0x5E#8, 0xC1#8, 0xB4#8, 0x6C#8, 0x24#8, 0x1C#8, 0xFF#8] }
    t.getPR 1 = [3#8, 1#8] ∧ t.getPR 2 = [0xFF#8] := by decide +kernel
theorem test_rsEuclid_errors :
    st 0x00200131 0#32 0#32 0#32 = 0x1206 ∧ st 0x00200131 512#32 0#32 0#32 = 0x6406
      ∧ st 0x00200131 511#32 0#32 0#32 = 2 ∧ st 0x00100131 512#32 0#32 0#32 = 0x5406 := by decide +kernel

theorem test_chien :
    (chien [8#8, 6#8, 1#8]).toOption = some [4#8, 2#8] ∧ (chien [1#8, 0#8, 1#8]).toOption = none
      ∧ (chien [3#8, 5#8]).toOption = some [0xF4#8] ∧ (chien [0#8]).toOption = some [] := by decide +kernel
theorem test_rsChien :
    let t := after { issued [] 0#32 0#32 0#32 0x32 with pr := Vector.replicate 8 [8#8, 6#8, 1#8], errMag := rsArray [9#8] }
    t.errCnt = 2#8 ∧ t.locations = [4#8, 2#8] ∧ t.magnitudes = [0#8, 0#8] ∧ t.res0 = 2#32 := by decide +kernel

theorem test_rsForney :
    let t := after { issued [] 0#32 0#32 0#32 0x33 with
      pr := Vector.replicate 8 [7#8, 9#8], errCnt := 2#8, errLoc := rsArray [2#8, 4#8] }
    t.magnitudes = [0x7C#8, 0x75#8] ∧ t.res0 = 2#32 := by decide +kernel

/-- RS-2, as in P4. -/
theorem test_rsApply :
    let t := after { issued [0xBF#8] 0#32 26#32 0#32 0x34 with
      errCnt := 1#8, errLoc := rsArray [3#8], errMag := rsArray [0xFF#8] }
    t.readByte 0x1000 = 0x40#8 ∧ t.res0 = 1#32 := by decide +kernel
/-- The position of α^25 in a block of 25 bytes would be −1: CHECKSUM 4. -/
theorem test_rsApply_negative :
    (after { issued [0xBF#8] 0#32 25#32 0#32 0x34 with
      errCnt := 1#8, errLoc := rsArray [3#8], errMag := rsArray [0xFF#8] }).statusWord = 0x4206#32 := by decide +kernel

/-- RS-4: two errors corrected. -/
theorem test_rsDecode :
    let t := after (issued ((rs1.set 3 0x44#8).set 20 0xAA#8) 0#32 26#32 7#32 0x35)
    t.readBytes 0x1000 26 = rs1 ∧ t.locations = [0x20#8, 0xEA#8] ∧ t.magnitudes = [0x80#8, 0x10#8] ∧ t.res0 = 2#32 := by
  decide +kernel
/-- RS-C1, RS-C2 and RS-C3: CHECKSUM 4, 2 and 3. -/
theorem test_rsDecode_errors :
    (after (issued [0x82#8, 0x3C#8, 0xFD#8, 0xD0#8, 0xB2#8, 0xDD#8] 0#32 6#32 2#32 0x35)).statusWord = 0x4206#32
      ∧ (after (issued [0xF8#8, 0x3B#8, 0x76#8, 0x06#8, 0x15#8, 0xCE#8, 0xBA#8, 0x6F#8] 0#32 8#32 4#32 0x35)).statusWord
          = 0x2206#32
      ∧ (after (issued [0xF5#8, 0xE8#8, 0x4F#8, 0x19#8, 0xF7#8, 0x88#8] 0#32 6#32 4#32 0x35)).statusWord = 0x3206#32 := by
  decide +kernel

/-! ### Segments: 95_test_vectors.md 2.4 -/

theorem test_segDecode :
    let t := after (issued [0x40#8, 0x00#8] 0#32 2#32 1#32 0x40)
    t.seq = .busy ∧ t.segActive = true ∧ (after t).seg.nseg = 1 ∧ (after (after t)).res0 = 1#32 := by decide +kernel
/-- SEG-V0, SEG-V41, SEG-RANGE and the operands just inside. -/
theorem test_segDecode_bounds :
    st 0x40 0#32 1#32 0#32 = 0x3406 ∧ st 0x40 0#32 1#32 41#32 = 0x3406 ∧ st 0x40 4000#32 97#32 1#32 = 0x1406
      ∧ st 0x40 4000#32 96#32 40#32 = 1 ∧ st 0x40 0#32 0#32 1#32 = 1 := by decide +kernel

theorem test_segCcb :
    [1#32, 9#32, 10#32, 26#32, 27#32, 40#32].map (r0 0x41 1#32) = [10, 10, 12, 12, 14, 14]
      ∧ [1#32, 10#32, 27#32].map (r0 0x41 2#32) = [9, 11, 13] ∧ [1#32, 10#32, 27#32].map (r0 0x41 4#32) = [8, 16, 16]
      ∧ [1#32, 10#32, 27#32].map (r0 0x41 8#32) = [8, 10, 12] := by decide +kernel
theorem test_segCcb_errors :
    st 0x41 7#32 1#32 0#32 = 0x2106 ∧ st 0x41 16#32 0#32 0#32 = 0x6406 ∧ st 0x41 4#32 0#32 0#32 = 0x3406
      ∧ st 0x41 15#32 41#32 0#32 = 0x3406 := by decide +kernel
theorem test_segAlnum :
    [0#32, 10#32, 36#32, 41#32, 44#32].map (r0 0x42 · 0#32) = [0x30, 0x41, 0x20, 0x2D, 0x3A]
      ∧ st 0x42 45#32 0#32 0#32 = 0x5106 := by decide +kernel
theorem test_segKanji :
    [0#32, 191#32, 192#32, 5951#32, 5952#32, 0x1FFF#32].map (r0 0x43 · 0#32)
        = [0x8140, 0x81FF, 0x8240, 0x9FFF, 0xE040, 0xEBBF]
      ∧ st 0x43 0x2000#32 0#32 0#32 = 0x6406 := by decide +kernel
theorem test_segEci :
    [0x7FFFFF#32, 0x838400#32, 0xC12345#32, 0xDFFFFF#32].map (fun w => ((after (issued [] w 0#32 0#32 0x44)).res0,
        (after (issued [] w 0#32 0#32 0x44)).res1))
      = [(127#32, 1#32), (900#32, 2#32), (74565#32, 3#32), (2097151#32, 3#32)] := by decide +kernel
theorem test_segEci_errors : st 0x44 0xE00000#32 0#32 0#32 = 0x6106 ∧ st 0x44 0x1000000#32 0#32 0#32 = 0x6406 := by
  decide +kernel

/-- SEG-NUM10. -/
theorem test_modeNumeric :
    let t := after (inSegment [0x10#8, 0x28#8, 0x0C#8, 0x56#8, 0x6A#8, 0x69#8, 0x00#8] 1#32 .start)
    t.readBytes 0x4000 10 = [0x30#8, 0x31#8, 0x32#8, 0x33#8, 0x34#8, 0x35#8, 0x36#8, 0x37#8, 0x38#8, 0x39#8]
      ∧ t.readBytes 0x8000 16 = [1#8, 0#8, 10#8, 0#8] ++ List.replicate 8 0#8 ++ [10#8, 0#8, 0#8, 0#8]
      ∧ (t.seg.pos, t.seg.nout, t.seg.nseg) = (48, 10, 1) := by decide +kernel
/-- SEG-NUMBAD3, SEG-NUMBAD2 and SEG-NUMBAD1. -/
theorem test_modeNumeric_range :
    [[0x10#8, 0x0F#8, 0xE8#8, 0x00#8], [0x10#8, 0x0B#8, 0x20#8, 0x00#8], [0x10#8, 0x06#8, 0x80#8]].all
      (fun bs => (after (inSegment bs 1#32 .start)).statusWord = 0x4106#32) = true := by decide +kernel
/-- SEG-AC42. -/
theorem test_modeAlphanumeric :
    let t := after (inSegment [0x20#8, 0x29#8, 0xCE#8, 0xE7#8, 0x21#8, 0x00#8] 1#32 .start)
    t.readBytes 0x4000 5 = [0x41#8, 0x43#8, 0x2D#8, 0x34#8, 0x32#8] ∧ t.readByte 0x8000 = 2#8 := by decide +kernel
/-- SEG-ALMAX, SEG-ALBAD2 and SEG-ALBAD1. -/
theorem test_modeAlphanumeric_range :
    (after (inSegment [0x20#8, 0x17#8, 0xE8#8, 0x00#8] 1#32 .start)).readBytes 0x4000 2 = [0x3A#8, 0x3A#8]
      ∧ (after (inSegment [0x20#8, 0x17#8, 0xE9#8, 0x00#8] 1#32 .start)).statusWord = 0x5106#32
      ∧ (after (inSegment [0x20#8, 0x0D#8, 0xA0#8] 1#32 .start)).statusWord = 0x5106#32 := by decide +kernel
/-- SEG-BYTEV10, and the byte segment of SEG-ECI26 with its designator in the record. -/
theorem test_modeByte :
    (after (inSegment [0x40#8, 0x00#8, 0x24#8, 0x14#8, 0x20#8] 10#32 .start)).readBytes 0x4000 2 = [0x41#8, 0x42#8]
      ∧ (after (inSegment [0x71#8, 0xA4#8, 0x02#8, 0xC3#8, 0xA9#8, 0x00#8] 1#32
          { pos := 12, nout := 0, nseg := 0, eci := some 26#21 })).readBytes 0x8000 16
        = [4#8, 1#8, 2#8, 0#8, 26#8] ++ List.replicate 7 0#8 ++ [2#8, 0#8, 0#8, 0#8] := by decide +kernel
/-- SEG-SHORT. -/
theorem test_modeByte_short : (after (inSegment [0x40#8, 0x34#8, 0x10#8] 1#32 .start)).statusWord = 0x3106#32 := by
  decide +kernel
/-- SEG-KEDGE. -/
theorem test_modeKanji :
    let t := after (inSegment [0x80#8, 0x30#8, 0x00#8, 0x7F#8, 0xFE#8, 0xE8#8, 0x00#8] 1#32 .start)
    t.readBytes 0x4000 6 = [0x81#8, 0x40#8, 0xEB#8, 0xBF#8, 0xE0#8, 0x40#8] ∧ t.readByte 0x8002 = 3#8
      ∧ t.readByte 0x800C = 6#8 := by decide +kernel
/-- The designators of SEG-ECI26, SEG-ECI2B and SEG-ECI3B. -/
theorem test_modeEci :
    (after (inSegment [0x71#8, 0xA4#8] 1#32 .start)).seg.eci = some 26#21
      ∧ (after (inSegment [0x78#8, 0x38#8, 0x44#8] 1#32 .start)).seg.eci = some 900#21
      ∧ (after (inSegment [0x7C#8, 0x12#8, 0x34#8, 0x54#8] 1#32 .start)).seg.eci = some 74565#21 := by decide +kernel
/-- SEG-ECIBAD. -/
theorem test_modeEci_bad_lead : (after (inSegment [0x7E#8, 0x00#8] 1#32 .start)).statusWord = 0x6106#32 := by decide +kernel
/-- SEG-EMPTY, SEG-NONE, and the implicit terminator of SEG-IMPL with its one segment made. -/
theorem test_modeTerminator :
    (after (inSegment [0x00#8] 1#32 .start)).statusWord = 0x1106#32 ∧ (after (inSegment [] 1#32 .start)).statusWord = 0x1106#32
      ∧ (after (inSegment [0x10#8, 0x08#8, 0x60#8] 1#32 { pos := 21, nout := 2, nseg := 1, eci := none })).res1 = 2#32 := by
  decide +kernel
/-- SEG-MODE3 and SEG-FNC1. -/
theorem test_bad_modes :
    (after (inSegment [0x30#8, 0x00#8] 1#32 .start)).statusWord = 0x2106#32
      ∧ (after (inSegment [0x50#8] 1#32 .start)).statusWord = 0x2106#32 := by decide +kernel

/-! ### Fetching a table row's instruction -/

theorem test_withFetchWord_mode :
    [1, 2, 4, 8].all (fun m => (after (State.reset.withFetchWord 8 m)).seg.nseg = 1) = true
      ∧ (after (State.reset.withFetchWord 8 7)).seg.eci = some 0#21
      ∧ (after (State.reset.withFetchWord 8 0)).statusWord = 0x1106#32 := by decide +kernel

theorem test_decodeTableWord : decodeTableWord 32 0x402327 = some (.polyDiv 3 4 2 0) ∧ decodeTableWord 8 7 = some .modeEci := by
  decide

/-! ### The bus: 95_test_vectors.md 2.5 -/

theorem test_bus_reads :
    (after (idleHost [.read .w32 0x0000C#20])).reply = some { busError := false, data := 0x51524631#32 }
      ∧ (after (idleHost [.read .w16 0x004FE#20])).reply = some { busError := true, data := 0#32 }
      ∧ (after { idleHost [.read .w32 0x01000#20] with
          mem := [(0x1000, 0x11#8), (0x1001, 0x22#8), (0x1002, 0x33#8), (0x1003, 0x44#8)] }).reply
        = some { busError := false, data := 0x44332211#32 } := by decide +kernel

/-- DONE is cleared after the error 0x1306, ERR kept (R294). -/
theorem test_status_write_one_to_clear :
    (after { idleHost [.write .w32 0x00004#20 2#32] with
      done := true, err := true, errCode := 3#4, errDetail := 1#4 }).statusWord = 0x1304#32 := by decide +kernel

theorem test_cmd_write_while_busy :
    (after (busyHost [.write .w32 0x00000#20 1#32])).statusWord = 0x9#32
      ∧ (after (busyHost [.write .w32 0x00000#20 1#32])).curCmd = 0#32 := by decide +kernel

/-- R321, R322: RST asserted between two mode indicators clears the block; a write meanwhile is lost; released, it is IDLE. -/
theorem test_rst :
    let s := { issued [0x40#8, 0x00#8] 0#32 2#32 1#32 0x40 with
      hostQueue := [.pass, .rst true, .write .w32 0x00010#20 7#32, .rst false] }
    (after s).segActive = true ∧ (after (after s)).statusWord = 0#32 ∧ (after (after s)).rst = true
      ∧ (after (after (after s))).arg0 = 0#32 ∧ (after (after (after (after s)))).rst = false
      ∧ (after (after (after (after s)))).seq = .idle := by decide +kernel

theorem test_irq : ({ State.reset with done := true, ie := true } : State).irq = true ∧ State.reset.irq = false := by decide

/-! ### Witnesses: for each statement with hypotheses, states and operands that meet them, at the edges of its clauses -/

theorem witness_DecoderReadsExactlyTheUsedBits :
    decode 0x00402327#32 = .ok (.polyDiv 3 4 2 0) ∧ decode 0x00777711#32 = .ok .gfMul
      ∧ 0x00777711#32 &&& usedBits .gfMul = 0x00000011#32 &&& usedBits .gfMul := ⟨rfl, rfl, by decide⟩

/-- BUSY, the sequencer's turn, with an undefined opcode, a reserved bit, and an instruction. -/
theorem witness_IllegalWordsRaiseIllegal :
    [0x815, 0x811, 0x11].all (fun w =>
        let s := issued [] 0#32 0#32 0#32 w
        s.seq = .busy && !s.segActive && s.hostQueue.isEmpty) = true
      ∧ 0x15 ∉ definedOpcodes ∧ 0x11 ∈ definedOpcodes ∧ 0x811#32 &&& 0xFF888800#32 ≠ 0#32
      ∧ 0x11#32 &&& 0xFF888800#32 = 0#32 := by decide +kernel

theorem witness_StepRunsTheLatchedCommand :
    let s := issued [] 2#32 3#32 0#32 0x11
    s.seq = .busy ∧ s.segActive = false ∧ s.SequencerTurn ∧ decode s.curCmd = .ok .gfMul ∧ State.reset.hostQueue = [] :=
  ⟨rfl, rfl, .inl rfl, rfl, rfl⟩

/-- The host has an access to make and may not move. -/
theorem witness_SequencerTurn_of_a_waiting_host : ({ busyHost [.wait] with busyLeft := 0 } : State).SequencerTurn :=
  .inr ⟨.wait, [], rfl, rfl, rfl⟩

/-- Three unread bits, four with a mode, four with none. -/
theorem witness_StepRunsTheModeIndicator :
    let s (b : Byte) (pos : Nat) := inSegment [b] 1#32 { pos := pos, nout := 0, nseg := 0, eci := none }
    (s 0x00#8 5).seq = .busy ∧ (s 0x00#8 5).segActive = true ∧ (s 0x00#8 5).hostQueue = [] ∧ (s 0x00#8 5).avail 5 = 3
      ∧ (s 0x04#8 4).avail 4 = 4 ∧ (s 0x04#8 4).streamField 4 4 = 4 ∧ (s 0x05#8 4).streamField 4 4 = 5 := by decide +kernel

/-- A turn passed by the host. -/
theorem witness_StepRunsTheLatchedCommand_pass :
    let s := busyHost [.pass, .rst true]
    s.seq = .busy ∧ s.segActive = false ∧ s.hostQueue = .pass :: [.rst true] ∧ decode s.curCmd = .ok .nop :=
  ⟨rfl, rfl, rfl, rfl⟩

theorem witness_BusyCommandCompletes :
    let s := issued [0x40#8, 0x00#8] 0#32 2#32 1#32 0x40
    s.seq = .busy ∧ s.hostQueue = [] ∧ (after (after (after s))).seq = .idle ∧ (after (after (after s))).done = true := by
  decide +kernel

/-- A state no reset gives: a completed error, a location in ERRLOC, a nonzero PR0, a byte written. -/
def worn : State :=
  { State.reset.writeByte 0x1FFF 7#8 with
    done := true, err := true, errCode := 5#4, errDetail := 2#4, errCnt := 1#8, errLoc := rsArray [3#8]
    pr := (Vector.replicate 8 [0#8]).set 0 [7#8, 9#8], hostQueue := [.write .w32 0x00000#20 0x22#32] }

theorem witness_worn_step : ∃ t, step worn = .next t := ⟨_, rfl⟩

theorem witness_MemoryStaysCanonical : Memory.wf worn.mem := by decide +kernel

theorem witness_PolyRegistersStayNormalized : worn.PolysOk := by decide +kernel

theorem witness_StatusStaysConsistent : worn.StatusOk :=
  ⟨fun h => absurd h (by decide), fun h => absurd h (by decide), fun _ => ⟨.reservedBit, rfl, rfl⟩⟩

theorem witness_ErrorLocationsStayDistinct : worn.RsOk := by
  refine ⟨by decide +kernel, by decide +kernel, fun k hk => ?_⟩
  have h : 1 ≤ k.val := hk
  have e : ([3#8] : List Byte).getD k.val 0#8 = 0#8 := by
    rw [List.getD_eq_getElem?_getD, List.getElem?_eq_none (by simpa using h)]; rfl
  simpa [worn, rsArray, State.writeByte, State.reset] using e

theorem witness_WritesStayInMappedMemory : worn.MemMapped := by
  intro c hc
  have : c = (0x1FFF, 7#8) := by simpa [worn, State.writeByte, Memory.store, State.reset] using hc
  subst this
  exact .inl (by decide)

/-- A SEG.DECODE of version 40 over all of CWBUF, at the end of its input with as much output and as many records as its
bits allow, and one outside SEG.DECODE. -/
theorem witness_SegmentDecoderStaysInBounds :
    let s := { issued [] 0#32 4096#32 40#32 0x40 with
      curArg1 := 4096#32, curArg2 := 40#32, segActive := true, seg := { pos := 32768, nout := 9830, nseg := 2730, eci := none } }
    s.SegOk ∧ worn.SegOk :=
  ⟨⟨fun h => absurd h (by decide), fun _ => ⟨rfl, rfl, by decide, by decide, by decide, by decide, by decide, by decide⟩⟩,
    fun _ => rfl, fun h => absurd h (by decide)⟩

/-- RST held, with these accesses to come. -/
def heldHost (ops : List HostOp) : State := { State.reset with rst := true, epoch := 3, hostQueue := ops }

/-- R321: RST is a level, and two assertions of it in a row are one reset. -/
theorem test_rst_twice : (after (after (idleHost [.rst true, .rst true]))).epoch = 1 := by decide +kernel

/-- R42, R65, R321: with RST asserted ID and a byte of CWBUF read the same each time, and a misaligned read gets a bus error. -/
theorem test_read_while_rst :
    let ops : List HostOp := [.read .w8 0x01000#20, .read .w8 0x01000#20]
    (after (heldHost [.read .w32 0x0000C#20])).reply = some { busError := false, data := 0x51524631#32 }
      ∧ (after (heldHost [.read .w16 0x01001#20])).reply = some { busError := true, data := 0#32 }
      ∧ (after (heldHost ops)).reply = (after (after (heldHost ops))).reply :=
  ⟨by decide +kernel, by decide +kernel, rfl⟩

/-- RST lands with no access let in any more, between two mode indicators and while IDLE; it is held and released. -/
theorem witness_ResetAbandonsTheCommand :
    (let s := { inSegment [0x40#8, 0x00#8] 1#32 .start with hostQueue := [.rst true] };
      s.seq = .busy ∧ s.rst = false ∧ s.busyLeft = 0 ∧ s.hostQueue = .rst true :: [])
      ∧ (idleHost [.rst true, .wait]).hostQueue = .rst true :: [.wait] ∧ (idleHost []).rst = false
      ∧ (heldHost [.rst true]).rst = true ∧ (heldHost [.rst true]).HeldOk
      ∧ (heldHost [.rst false]).HeldOk ∧ (heldHost [.rst false]).rst = true ∧ (heldHost [.wait]).HeldOk
      ∧ (HostOp.wait).isAccess = true ∧ worn.HeldOk :=
  ⟨by decide, rfl, rfl, rfl, fun _ => rfl, fun _ => rfl, rfl, fun _ => rfl, rfl, fun h => absurd h (by decide)⟩

/-- A command, and a mode indicator of a SEG.DECODE within bounds that stays in it. -/
theorem witness_InstructionsWriteOnlyTheirState :
    (∃ t, exec (.polyStore 0) State.reset = .next t)
      ∧ (inSegment [0x40#8, 0x00#8] 1#32 .start).SegOk ∧ (inSegment [0x40#8, 0x00#8] 1#32 .start).segActive = true
      ∧ Instr.modeByte.isMode = true ∧ (after (inSegment [0x40#8, 0x00#8] 1#32 .start)).segActive = true
      ∧ writesRes0 (.polyMono 0) = false ∧ writesRes1 (.polyStore 0) = false :=
  ⟨⟨_, rfl⟩, ⟨fun h => absurd h (by decide),
    fun _ => ⟨rfl, rfl, by decide, by decide, by decide, by decide, by decide, by decide⟩⟩, rfl, rfl, by decide +kernel, rfl, rfl⟩

/-- An error of a command, and one of a mode indicator. -/
theorem witness_ErrorWritesOnlyStatus :
    State.reset.err = false ∧ (∃ t, exec .gfInv State.reset = .next t ∧ t.err = true)
      ∧ ∃ t, exec .modeTerminator State.reset = .next t ∧ t.err = true := ⟨rfl, ⟨_, rfl, rfl⟩, ⟨_, rfl, rfl⟩⟩

theorem witness_TablesFollowTheDoublingRule : (0xFF#8 : Byte) ≠ 0#8 ∧ logTable 0xFF#8 = 175 ∧ gfExp 175 = 0xFF#8 := by
  decide +kernel

theorem witness_CoefficientsOfSumScaleShift : Normalized [0#8] ∧ Normalized [1#8, 2#8] ∧ ¬ Normalized [0#8, 1#8] := by decide

theorem witness_CoefficientsOfProduct :
    Normalized [1#8, 2#8] ∧ Normalized [1#8, 3#8] ∧ [1#8, 2#8] ≠ [0#8] ∧ [1#8, 3#8] ≠ [0#8] := by decide

theorem witness_DivisionIdentity : Normalized [1#8, 0#8, 0#8, 0#8] ∧ Normalized [1#8, 2#8] ∧ [1#8, 2#8] ≠ [0#8] := by decide

theorem witness_EvaluationLaws : Normalized [1#8, 2#8, 3#8] ∧ Normalized [0#8] := by decide

theorem witness_PolyDivCommand : State.reset.PolysOk ∧ worn.PolysOk := by decide +kernel

/-- RS-2, the zero syndrome with the least R that is not 0, and a syndrome polynomial of degree above R. -/
theorem witness_EuclidSolvesTheKeyEquation :
    (let S := [0x5E#8, 0xC1#8, 0xB4#8, 0x6C#8, 0x24#8, 0x1C#8, 0xFF#8];
      Normalized S ∧ deg S ≤ 7 ∧ euclid Config.euclidStop S 7 = .ok ([3#8, 1#8], [0xFF#8]))
      ∧ Normalized [0#8] ∧ deg [0#8] ≤ 1 ∧ euclid Config.euclidStop [0#8] 1 = .ok ([1#8], [0#8])
      ∧ Normalized [1#8, 1#8, 1#8] ∧ 1 < deg [1#8, 1#8, 1#8]
      ∧ euclid Config.euclidStop [1#8, 1#8, 1#8] 1 = .ok ([1#8, 1#8], [1#8]) :=
  ⟨⟨by decide, by decide, rfl⟩, by decide, by decide, rfl, by decide, by decide, rfl⟩

theorem witness_EuclidMeetsZeroRemainderOnlyAtZero :
    Normalized [5#8] ∧ (euclid Config.euclidStop [5#8] 0).toOption = none ∧ (euclid Config.euclidStop [5#8] 1).toOption.isSome := by
  decide +kernel

theorem witness_ForneyGivesTheMagnitudes : [2#8, 4#8].Nodup ∧ 0#8 ∉ [2#8, 4#8] ∧ ([] : List Byte).Nodup := by decide

theorem witness_RsForneyCommand : worn.RsOk ∧ worn.locations = [3#8] :=
  ⟨witness_ErrorLocationsStayDistinct, by decide +kernel⟩

theorem witness_RsApplyCommand : ({ worn with curArg1 := 26#32 } : State).RsOk ∧ logTable 3#8 = 25 :=
  ⟨witness_ErrorLocationsStayDistinct, by decide +kernel⟩

/-- No error in the block, an error corrected, an error raised. -/
theorem witness_RsDecodeAgreesWithTheStages :
    State.reset.err = false
      ∧ (after (issued (rs1.set 0 0xBF#8) 0#32 26#32 7#32 0x35)).res1 = 0#32
      ∧ (after (issued rs1 0#32 26#32 7#32 0x35)).res1 = 1#32 ∧ (after (issued [] 0#32 0#32 0#32 0x35)).err = true := by
  decide +kernel

/-- SEG-ECI3B's designator: the 24 bits C12345. -/
theorem witness_SegEciCommand :
    (inSegment [0xC1#8, 0x23#8, 0x45#8] 1#32 .start).Holds 0 (bitsOf 24 0xC12345) := by
  unfold State.Holds
  decide +kernel

/-- SEG-NUM10: "0123456789". -/
theorem witness_NumericSegmentDecodes :
    let s := inSegment [0x10#8, 0x28#8, 0x0C#8, 0x56#8, 0x6A#8, 0x69#8, 0x00#8] 1#32 .start
    let ds := [0, 1, 2, 3, 4, 5, 6, 7, 8, 9]
    (∀ d ∈ ds, d < 10) ∧ ds.length < 2 ^ ccb .numeric s.curArg2.toNat
      ∧ s.Holds (s.seg.pos + 4) (bitsOf (ccb .numeric s.curArg2.toNat) ds.length ++ numericBits ds)
      ∧ s.seg.nout + ds.length ≤ 12288 ∧ s.seg.nseg < 3072 := by
  unfold State.Holds
  decide +kernel

/-- SEG-AC42: "AC-42". -/
theorem witness_AlphanumericSegmentDecodes :
    let s := inSegment [0x20#8, 0x29#8, 0xCE#8, 0xE7#8, 0x21#8, 0x00#8] 1#32 .start
    let is := [10, 12, 41, 4, 2]
    (∀ i ∈ is, i < 45) ∧ is.length < 2 ^ ccb .alphanumeric s.curArg2.toNat
      ∧ s.Holds (s.seg.pos + 4) (bitsOf (ccb .alphanumeric s.curArg2.toNat) is.length ++ alnumBits is)
      ∧ s.seg.nout + is.length ≤ 12288 ∧ s.seg.nseg < 3072 := by
  unfold State.Holds
  decide +kernel

/-- SEG-BYTEV10: "AB" with a count of 16 bits. -/
theorem witness_ByteSegmentDecodes :
    let s := inSegment [0x40#8, 0x00#8, 0x24#8, 0x14#8, 0x20#8] 10#32 .start
    let bs := [0x41#8, 0x42#8]
    bs.length < 2 ^ ccb .byte s.curArg2.toNat
      ∧ s.Holds (s.seg.pos + 4) (bitsOf (ccb .byte s.curArg2.toNat) bs.length ++ bs.flatMap fun b => bitsOf 8 b.toNat)
      ∧ s.seg.nout + bs.length ≤ 12288 ∧ s.seg.nseg < 3072 := by
  unfold State.Holds
  decide +kernel

/-- SEG-KEDGE: the values 0, 0x1FFF and 5952. -/
theorem witness_KanjiSegmentDecodes :
    let s := inSegment [0x80#8, 0x30#8, 0x00#8, 0x7F#8, 0xFE#8, 0xE8#8, 0x00#8] 1#32 .start
    let vs := [0, 0x1FFF, 5952]
    (∀ v ∈ vs, v < 8192) ∧ vs.length < 2 ^ ccb .kanji s.curArg2.toNat
      ∧ s.Holds (s.seg.pos + 4) (bitsOf (ccb .kanji s.curArg2.toNat) vs.length ++ vs.flatMap fun v => bitsOf 13 v)
      ∧ s.seg.nout + 2 * vs.length ≤ 12288 ∧ s.seg.nseg < 3072 := by
  unfold State.Holds
  decide +kernel

/-- One, two and three bytes at the largest value each holds, and the bad lead byte. -/
theorem witness_EciDesignatorDecodes :
    (inSegment [0x77#8, 0xF0#8] 1#32 .start).Holds 4 (false :: bitsOf 7 127)
      ∧ (inSegment [0x7B#8, 0xFF#8, 0xF0#8] 1#32 .start).Holds 4 (true :: false :: bitsOf 14 16383)
      ∧ (inSegment [0x7D#8, 0xFF#8, 0xFF#8, 0xF0#8] 1#32 .start).Holds 4 (true :: true :: false :: bitsOf 21 2097151)
      ∧ (inSegment [0x7E#8, 0x00#8] 1#32 .start).Holds 4 (true :: true :: true :: bitsOf 5 0) := by
  unfold State.Holds
  decide +kernel

/-- One bit too few for the first byte, the second byte, the second and third byte. -/
theorem witness_EciDesignatorDecodes_past_end :
    let s (bs : List Byte) := inSegment bs 1#32 { pos := 5, nout := 0, nseg := 0, eci := none }
    (s [0x00#8, 0x40#8]).avail 9 = 7
      ∧ ((s [0x00#8, 0x40#8, 0x00#8]).Holds 9 (true :: false :: bitsOf 6 0) ∧ (s [0x00#8, 0x40#8, 0x00#8]).avail 17 = 7)
      ∧ (s [0x00#8, 0x60#8, 0x00#8, 0x00#8]).Holds 9 (true :: true :: false :: bitsOf 5 0)
      ∧ (s [0x00#8, 0x60#8, 0x00#8, 0x00#8]).avail 17 = 15 := by
  unfold State.Holds
  decide +kernel

/-- Seven bits left where the count takes eight, and SEG-NUMBAD3's group after the good group "012". -/
theorem witness_SegmentErrorsKeepThePrefix :
    (let s := inSegment [0x00#8, 0x40#8] 1#32 { pos := 5, nout := 0, nseg := 0, eci := none };
      s.avail (s.seg.pos + 4) = 7 ∧ ccb .byte s.curArg2.toNat = 8)
      ∧ let s := inSegment [0x10#8, 0x18#8, 0x0C#8, 0xFA#8, 0x00#8] 1#32 .start
        s.readField 4 (ccb .numeric s.curArg2.toNat) = .ok 6
          ∧ s.segChars .numeric 6 14 = { out := [0x30#8, 0x31#8, 0x32#8], last := .error .numericRange } :=
  ⟨by decide +kernel, rfl, rfl⟩

/-- SEG-NUMBAD3's group after the good group "012"; a second byte, SEG-SHORT, and a second Kanji character past the end; the
single of SEG-ALBAD1 and the pair of SEG-ALBAD2, the least values out of range. -/
theorem witness_SegmentErrorsKeepThePrefix_groups :
    let good (s : State) (m : SegMode) (gs : List Nat) (rest : Nat) : Prop :=
      (∀ g ∈ gs, g < groupLimit m) ∧ groupSize m * gs.length + rest < 2 ^ ccb m s.curArg2.toNat
        ∧ s.Holds 4 (bitsOf (ccb m s.curArg2.toNat) (groupSize m * gs.length + rest) ++ gs.flatMap (bitsOf (groupWidth m)))
    good (inSegment [0x10#8, 0x18#8, 0x0C#8, 0xFA#8, 0x00#8] 1#32 .start) .numeric [12] 3
      ∧ (inSegment [0x10#8, 0x18#8, 0x0C#8, 0xFA#8, 0x00#8] 1#32 .start).groupFails .numeric 3 24 .numericRange
      ∧ good (inSegment [0x40#8, 0x34#8, 0x10#8] 1#32 .start) .byte [0x41] 2
      ∧ (inSegment [0x40#8, 0x34#8, 0x10#8] 1#32 .start).groupFails .byte 2 20 .pastEnd
      ∧ good (inSegment [0x80#8, 0x20#8, 0x00#8, 0x00#8] 1#32 .start) .kanji [0] 1
      ∧ (inSegment [0x80#8, 0x20#8, 0x00#8, 0x00#8] 1#32 .start).groupFails .kanji 1 25 .pastEnd
      ∧ good (inSegment [0x20#8, 0x0D#8, 0xA0#8] 1#32 .start) .alphanumeric [] 1
      ∧ (inSegment [0x20#8, 0x0D#8, 0xA0#8] 1#32 .start).groupFails .alphanumeric 1 13 .alnumRange
      ∧ good (inSegment [0x20#8, 0x17#8, 0xE9#8, 0x00#8] 1#32 .start) .alphanumeric [] 2
      ∧ (inSegment [0x20#8, 0x17#8, 0xE9#8, 0x00#8] 1#32 .start).groupFails .alphanumeric 2 13 .alnumRange := by
  simp only [State.Holds, State.groupFails, State.fieldFails]
  decide +kernel

/-- A misaligned, an unmapped and a narrow register access, the host's turn while IDLE and while BUSY; and the last byte
of each window beside the first one past it. -/
theorem witness_BusErrorsChangeNothing :
    place .w16 0x01001#20 = none ∧ place .w8 0x00028#20 = none ∧ place .w8 0x00000#20 = none
      ∧ place .w8 0x004FE#20 = some (.errLoc 254) ∧ place .w8 0x004FF#20 = none ∧ place .w16 0x004FE#20 = none
      ∧ place .w8 0x005FE#20 = some (.errMag 254) ∧ place .w8 0x005FF#20 = none
      ∧ place .w8 0x01FFF#20 = some (.cwbuf 0x1FFF) ∧ place .w8 0x02000#20 = none
      ∧ place .w8 0x06FFF#20 = some (.outbuf 0x6FFF) ∧ place .w8 0x07000#20 = none
      ∧ place .w8 0x13FFF#20 = some (.segtab 0x13FFF) ∧ place .w8 0x14000#20 = none
      ∧ (idleHost [.read .w16 0x01001#20]).hostMayMove = true
      ∧ (busyHost [.write .w8 0x00028#20 1#32]).hostMayMove = true
      ∧ (heldHost [.read .w16 0x01001#20]).hostMayMove = true
      ∧ place .w16 0x0000C#20 = none ∧ (idleHost [.write .w16 0x0000C#20 1#32]).hostMayMove = true := by
  decide +kernel

theorem witness_IdleReadsHaveNoSideEffect :
    (idleHost [.read .w8 0x00400#20]).seq = .idle ∧ (heldHost [.read .w32 0x0001C#20]).seq = .idle ∧ place .w8 0x00400#20 = some (.errLoc 0)
      ∧ place .w32 0x0001C#20 = some .res0 ∧ place .w32 0x04000#20 = some (.outbuf 0x4000)
      ∧ place .w16 0x08002#20 = some (.segtab 0x8002) ∧ place .w32 0x00024#20 = some .errCnt := by decide +kernel

theorem witness_CwbufIsLittleEndian :
    place .w8 0x01000#20 = some (.cwbuf 0x1000) ∧ place .w16 0x01FFE#20 = some (.cwbuf 0x1FFE)
      ∧ place .w32 0x01FFC#20 = some (.cwbuf 0x1FFC)
      ∧ (idleHost [.write .w32 0x01000#20 0x44332211#32]).seq = .idle := by decide +kernel

theorem witness_IssueLatchesWordAndOperands :
    (idleHost [.write .w32 0x00000#20 0xFFFFFFFF#32]).seq = .idle ∧ (idleHost [.write .w32 0x00018#20 1#32]).seq = .idle := by
  decide

theorem witness_WritesWhileBusyAreDropped :
    let s := busyHost [.write .w32 0x00000#20 1#32]
    s.seq = .busy ∧ s.busyLeft ≠ 0 ∧ place .w32 0x00000#20 = some .cmd ∧ place .w8 0x01000#20 = some (.cwbuf 0x1000) := by
  decide +kernel

theorem witness_ReadsWhileBusy :
    let s := busyHost [.read .w8 0x01000#20]
    s.StatusOk ∧ s.seq = .busy ∧ s.busyLeft ≠ 0 ∧ place .w8 0x01000#20 = some (.cwbuf 0x1000)
      ∧ place .w32 0x00004#20 = some .status ∧ place .w32 0x00024#20 = some .errCnt :=
  ⟨⟨fun _ => ⟨rfl, rfl⟩, fun _ => ⟨rfl, rfl⟩, fun h => absurd h (by decide)⟩, rfl, by decide, by decide +kernel,
    by decide +kernel, by decide +kernel⟩

theorem witness_StatusControlAndInterrupt :
    (idleHost [.write .w32 0x00004#20 0xA#32]).seq = .idle ∧ (idleHost [.write .w32 0x00008#20 1#32]).seq = .idle := by decide

theorem witness_WaitPollsUntilIdle :
    (busyHost [.wait]).hostMayMove = true ∧ (busyHost [.wait]).seq = .busy ∧ (idleHost [.wait]).hostMayMove = true := by decide

end Sys2Proof.Tests
end

section
/-! SUPPORT. The polynomial registers: which steps leave them alone, and that every list written to one is normalized and
fits (10_state.md R24, R25); and the values after reset (R42). -/

namespace Sys2Proof.Machine

/-! ### Computations that can raise an error -/

theorem except_bind_eq_ok {ε α β : Type} {x : Except ε α} {f : α → Except ε β} {b : β} :
    x >>= f = .ok b ↔ ∃ a, x = .ok a ∧ f a = .ok b := by
  cases x with
  | ok a => exact ⟨fun h => ⟨a, rfl, h⟩, by rintro ⟨_, ⟨⟩, h⟩; exact h⟩
  | error e => exact ⟨nofun, by rintro ⟨_, ⟨⟩, _⟩⟩

/-- Whatever the computation answers, if it answers, satisfies `P`. -/
def Yields {α : Type} (P : α → Prop) (x : Except Err α) : Prop := ∀ a, x = .ok a → P a

theorem Yields.ok {α : Type} {P : α → Prop} {a : α} (h : P a) : Yields P (.ok a) := fun _ e => by cases e; exact h

theorem Yields.error {α : Type} {P : α → Prop} {e : Err} : Yields P (.error e) := fun _ h => by cases h

theorem Yields.bind {α β : Type} {P : β → Prop} {x : Except Err α} {f : α → Except Err β}
    (h : ∀ a, x = .ok a → Yields P (f a)) : Yields P (x >>= f) := fun b hb =>
  let ⟨a, ha, hf⟩ := except_bind_eq_ok.1 hb
  h a ha b hf

/-! ### What keeps the polynomial registers -/

/-- A command whose results have the registers of `s` leaves the registers as they were, in error or not. -/
theorem State.settle_samePR {s u : State} {r : Except Err State} (h : s.settle r = .next u)
    (hr : Yields (SamePR s) r) : SamePR s u := by
  obtain ⟨t, ht, rfl⟩ | ⟨e, -, rfl⟩ := State.settle_cases h
  · exact hr t ht
  · rfl

theorem State.segRecord_samePR (s : State) (m : SegMode) (count pos length : Nat) :
    SamePR s (s.segRecord m count pos length) := s.writeBytes_pr _ _

theorem State.dataSegment_samePR (s : State) (m : SegMode) : SamePR s (s.dataSegment m) := by
  obtain ⟨e, -, h⟩ | ⟨count, -, ⟨e, -, h⟩ | ⟨pos, -, h⟩⟩ := s.dataSegment_cases m
  · rw [h]; rfl
  · rw [h]; exact s.writeBytes_pr _ _
  · rw [h]; exact (State.segRecord_samePR ..).trans (s.writeBytes_pr _ _)

theorem execSegDecode_samePR {s t : State} (h : execSegDecode s = .next t) : SamePR s t := by
  unfold execSegDecode at h
  split at h <;> cases h <;> rfl

theorem execModeTerminator_samePR {s t : State} (h : execModeTerminator s = .next t) : SamePR s t := by
  unfold execModeTerminator at h
  split at h <;> cases h <;> rfl

theorem execModeEci_samePR {s t : State} (h : execModeEci s = .next t) : SamePR s t := by
  unfold execModeEci at h
  split at h <;> cases h <;> rfl

/-- RS.DECODE works in scratch (R198): its polynomials reach no register. -/
theorem execRsDecode_samePR {s t : State} (h : execRsDecode s = .next t) : SamePR s t := by
  refine State.settle_samePR h (.bind fun n _ => .bind fun twoS _ => .bind fun a _ => ?_)
  cases syndrome (norm (s.cwRead a n)) twoS with
  | mk S noError =>
    cases noError
    · exact .bind fun ⟨σ, ω⟩ _ => .bind fun L _ => .bind fun M _ => .bind fun ps _ => .ok (s.cwCorrect_pr ..)
    · exact .ok rfl

/-- R25: an instruction with no destination field writes no polynomial register. -/
theorem exec_samePR {i : Instr} {s t : State} (hi : prDestinations i = []) (h : exec i s = .next t) : SamePR s t := by
  cases i with
  | clr | polyLoad | polyMono | polyAdd | polyMul | polyScale | polyShift | polyDiv | rsSynd | rsEuclid => cases hi
  | nop => exact State.settle_samePR (r := .ok s) h (.ok rfl)
  | gfAdd | gfMul | gfInv | gfLog => exact State.settle_samePR h (.bind fun _ _ => .bind fun _ _ => .ok rfl)
  | gfExp | segAlnum | segKanji => exact State.settle_samePR h (.bind fun _ _ => .ok rfl)
  | polyStore a => exact State.settle_samePR h (.bind fun _ _ => .ok (s.cwWrite_pr ..))
  | polyDeg a | polyCoef a => exact State.settle_samePR (r := .ok _) h (.ok rfl)
  | polyEval a | rsChien a | rsForney a => exact State.settle_samePR h (.bind fun _ _ => .ok rfl)
  | rsApply => exact State.settle_samePR h (.bind fun _ _ => .bind fun _ _ => .bind fun _ _ => .ok (s.cwCorrect_pr ..))
  | rsDecode => exact execRsDecode_samePR h
  | segDecode => exact execSegDecode_samePR h
  | segCcb =>
    refine State.settle_samePR h (.bind fun m _ => .bind fun _ _ => ?_)
    cases SegMode.ofValue m with
    | none => exact .error
    | some mode => exact .ok rfl
  | segEci => exact State.settle_samePR h (.bind fun _ _ => .bind fun ⟨_, _⟩ _ => .ok rfl)
  | modeTerminator => exact execModeTerminator_samePR h
  | modeNumeric | modeAlphanumeric | modeByte | modeKanji => cases h; exact s.dataSegment_samePR _
  | modeEci => exact execModeEci_samePR h

/-! ### What the host can do to the registers -/

theorem State.writePlace_samePR (s : State) (w : Width) (data : Word) (p : Place) : SamePR s (s.writePlace w data p) := by
  cases p with
  | cwbuf a => exact s.writeBytes_pr _ _
  | _ => rfl

theorem State.writePlaceBusy_samePR (s : State) (p : Place) : SamePR s (s.writePlaceBusy p) := by
  cases p <;> rfl

theorem State.hostRead_samePR (s : State) (w : Width) (off : Offset) : SamePR s (s.hostRead w off) := by
  unfold State.hostRead
  split
  · rfl
  · split <;> rfl

theorem State.hostWrite_samePR (s : State) (w : Width) (off : Offset) (data : Word) :
    SamePR s (s.hostWrite w off data) := by
  cases hp : place w off with
  | none => rw [State.hostWrite_none hp]; rfl
  | some p =>
    cases hs : s.seq with
    | busy => rw [State.hostWrite_busy hp hs]; exact s.writePlaceBusy_samePR p
    | idle =>
      cases hr : s.rst with
      | true => rw [State.hostWrite_held hr hp hs]; rfl
      | false => rw [State.hostWrite_idle hr hp hs]; exact s.writePlace_samePR w data p

/-- RST gives the registers their values of R42, or leaves them. -/
theorem State.setRst_pr (s : State) (asserted : Bool) :
    SamePR s (s.setRst asserted) ∨ (s.setRst asserted).pr = State.reset.pr := by
  unfold State.setRst
  split
  · exact .inr rfl
  · exact .inl rfl

theorem State.hostStep_pr (s : State) (op : HostOp) (rest : List HostOp) :
    SamePR s (s.hostStep op rest) ∨ (s.hostStep op rest).pr = State.reset.pr := by
  cases op with
  | read w off => exact .inl (State.hostRead_samePR _ w off)
  | write w off data => exact .inl (State.hostWrite_samePR _ w off data)
  | wait => exact .inl rfl
  | rst asserted => exact State.setRst_pr _ asserted
  | pass => exact .inl rfl

theorem State.fetchFail_samePR (s : State) (e : Err) : SamePR s (s.fetchFail e) := by
  unfold State.fetchFail
  split <;> rfl

/-! ### GF(256): division undoes multiplication -/

theorem gfExp_logTable {a : Byte} (h : a ≠ 0#8) : gfExp (logTable a) = a := by
  revert a; decide +kernel

theorem logTable_lt (a : Byte) : logTable a < 255 := by revert a; decide +kernel

theorem gfExp_ne_zero {i : Nat} (h : i < 256) : gfExp i ≠ 0#8 := by revert i; decide +kernel

theorem logTable_gfExp {i : Nat} (h : i < 256) : logTable (gfExp i) = i % 255 := by revert i; decide +kernel

theorem gfMul_of_ne_zero {a b : Byte} (ha : a ≠ 0#8) (hb : b ≠ 0#8) :
    gfMul a b = gfExp ((logTable a + logTable b) % 255) := if_neg (not_or_intro ha hb)

@[simp] theorem gfMul_zero_left (b : Byte) : gfMul 0#8 b = 0#8 := if_pos (.inl rfl)

@[simp] theorem gfMul_zero_right (a : Byte) : gfMul a 0#8 = 0#8 := if_pos (.inr rfl)

theorem gfMul_comm (a b : Byte) : gfMul a b = gfMul b a := by
  simp only [gfMul, or_comm, Nat.add_comm]

theorem gfMul_ne_zero {a b : Byte} (ha : a ≠ 0#8) (hb : b ≠ 0#8) : gfMul a b ≠ 0#8 := by
  rw [gfMul_of_ne_zero ha hb]
  exact gfExp_ne_zero (by omega)

theorem logTable_gfMul {a b : Byte} (ha : a ≠ 0#8) (hb : b ≠ 0#8) :
    logTable (gfMul a b) = (logTable a + logTable b) % 255 := by
  rw [gfMul_of_ne_zero ha hb, logTable_gfExp (by omega), Nat.mod_mod]

/-- An inverse is that of a nonzero element, by its logarithm (R126). -/
theorem gfInv_eq_ok {b v : Byte} (h : gfInv b = .ok v) : b ≠ 0#8 ∧ v = gfExp (255 - logTable b) := by
  unfold gfInv at h
  split at h
  · cases h
  · cases h; exact ⟨‹_›, rfl⟩

/-- Multiplying by the inverse of `b`, then by `b`, gives the element back (R126). -/
theorem gfMul_gfInv_gfMul {b v : Byte} (h : gfInv b = .ok v) (a : Byte) : gfMul (gfMul a v) b = a := by
  obtain ⟨hb, rfl⟩ := gfInv_eq_ok h
  by_cases ha : a = 0#8
  · simp [ha]
  · have hv : gfExp (255 - logTable b) ≠ 0#8 := gfExp_ne_zero (by omega)
    have hla := logTable_lt a
    have hlb := logTable_lt b
    rw [gfMul_of_ne_zero (gfMul_ne_zero ha hv) hb, logTable_gfMul ha hv, logTable_gfExp (by omega)]
    rw [show ((logTable a + (255 - logTable b) % 255) % 255 + logTable b) % 255 = logTable a by omega, gfExp_logTable ha]

/-! ### Normalized lists -/

theorem normalized_zero : Normalized [0#8] := by decide

theorem normalized_cons {c : Byte} (hc : c ≠ 0#8) (cs : List Byte) : Normalized (c :: cs) :=
  ⟨by simp, .inr (by simpa using hc)⟩

/-- A normalized list other than the zero polynomial starts with its nonzero leading coefficient (R24). -/
theorem Normalized.exists_cons {p : Poly} (h : Normalized p) (h0 : p ≠ [0#8]) : ∃ c cs, p = c :: cs ∧ c ≠ 0#8 := by
  obtain ⟨hl, hp⟩ := h
  cases p with
  | nil => simp at hl
  | cons c cs => exact ⟨c, cs, rfl, by simpa using hp.resolve_left h0⟩

theorem Normalized.ne_nil {p : Poly} (h : Normalized p) : p ≠ [] := List.length_pos_iff.1 h.1

theorem normalized_norm (c : List Byte) : Normalized (norm c) := by
  induction c using norm.induct with
  | case1 => exact normalized_zero
  | case2 c =>
    by_cases hc : c = 0#8
    · subst hc; exact normalized_zero
    · exact normalized_cons hc []
  | case3 d cs ih => simpa [norm] using ih
  | case4 c d cs hc => simpa [norm, hc] using normalized_cons hc (d :: cs)

/-- A leading zero is dropped (R141). -/
theorem norm_zero_cons (cs : List Byte) : norm (0#8 :: cs) = norm cs := by cases cs <;> simp [norm]

theorem norm_cons_of_ne_zero {c : Byte} (hc : c ≠ 0#8) (cs : List Byte) : norm (c :: cs) = c :: cs := by
  cases cs <;> simp [norm, hc]

/-- Normalizing never raises the degree. -/
theorem deg_norm_le (c : List Byte) : deg (norm c) ≤ c.length - 1 := by
  cases c with
  | nil => simp [norm, deg]
  | cons c cs => exact Nat.sub_le_sub_right (norm_length_le (by simp)) 1

theorem normalized_mono (d : Nat) (c : Byte) : Normalized (mono d c) := by
  unfold mono
  split
  · exact normalized_zero
  · exact normalized_cons ‹_› _

theorem deg_mono_le (d : Nat) (c : Byte) : deg (mono d c) ≤ d := by
  simp only [deg, mono_length]; split <;> omega

theorem normalized_padd {a b : Poly} (ha : Normalized a) (hb : Normalized b) : Normalized (padd a b) := by
  unfold padd
  split
  · exact hb
  · split
    · exact ha
    · exact normalized_norm _

theorem deg_padd_le (a b : Poly) : deg (padd a b) ≤ max (deg a) (deg b) := by
  unfold padd
  split
  · exact Nat.le_max_right ..
  · split
    · exact Nat.le_max_left ..
    · have h := deg_norm_le (xorAligned a b)
      rw [xorAligned_length] at h
      simp only [deg] at h ⊢
      omega

theorem normalized_pmul (a b : Poly) : Normalized (pmul a b) := by
  unfold pmul
  split
  · exact normalized_zero
  · exact normalized_norm _

theorem deg_pmul_le (a : Poly) {b : Poly} (hb : b ≠ []) : deg (pmul a b) ≤ deg a + deg b := by
  unfold pmul
  split
  · exact Nat.zero_le _
  · have h := deg_norm_le (convolve a b)
    rw [convolve_length a b hb] at h
    have := List.length_pos_iff.2 hb
    simp only [deg] at h ⊢
    omega

theorem normalized_pscale {a : Poly} (ha : Normalized a) (c : Byte) : Normalized (pscale a c) := by
  unfold pscale
  split
  · exact normalized_zero
  · split
    · exact ha
    · exact normalized_norm _

theorem deg_pscale_le (a : Poly) (c : Byte) : deg (pscale a c) ≤ deg a := by
  unfold pscale
  split
  · exact Nat.zero_le _
  · split
    · exact Nat.le_refl _
    · simpa [deg] using deg_norm_le (a.map fun x => gfMul x c)

theorem normalized_pshift (a : Poly) (d : Nat) (c : Byte) : Normalized (pshift a d c) := by
  unfold pshift
  split
  · exact normalized_zero
  · exact normalized_norm _

/-- Scaling by a nonzero element and shifting keeps the leading coefficient in front (R150). -/
theorem pshift_cons {y c : Byte} (hy : y ≠ 0#8) (hc : c ≠ 0#8) (ys : List Byte) (d : Nat) :
    pshift (y :: ys) d c = gfMul y c :: (ys.map (fun x => gfMul x c) ++ List.replicate d 0#8) := by
  simp only [pshift, hc, if_false, List.map_cons, List.cons_append]
  exact norm_cons_of_ne_zero (gfMul_ne_zero hy hc) _

/-- Two polynomials of one degree and one leading coefficient have a sum of lower degree, or 0 (R147). -/
theorem padd_cons_same {c : Byte} (hc : c ≠ 0#8) {as bs : List Byte} (h : as.length = bs.length) :
    padd (c :: as) (c :: bs) = norm (List.zipWith gfAdd as bs) := by
  simp [padd, isZero, hc, xorAligned, h, gfAdd, norm_zero_cons]

/-! ### Long division -/

theorem coef_deg_cons (c : Byte) (cs : List Byte) : coef (c :: cs) (deg (c :: cs)) = c := by simp [coef, deg]

/-- One pass of the division cancels the leading coefficient of the remainder (R151). -/
theorem pdiv_pass_deg_lt {b r : Poly} {inv : Byte} (hb : Normalized b) (hr : Normalized r) (hb0 : b ≠ [0#8])
    (hr0 : r ≠ [0#8]) (hinv : gfInv (coef b (deg b)) = .ok inv) (hd : deg b ≤ deg r) :
    let r' := padd r (pshift b (deg r - deg b) (gfMul (coef r (deg r)) inv))
    r' = [0#8] ∨ deg r' < deg r := by
  obtain ⟨x, xs, rfl, hx⟩ := hr.exists_cons hr0
  obtain ⟨y, ys, rfl, hy⟩ := hb.exists_cons hb0
  rw [coef_deg_cons] at hinv ⊢
  have hlead : gfMul (gfMul x inv) y = x := gfMul_gfInv_gfMul hinv x
  have hscale : gfMul x inv ≠ 0#8 := fun h => hx (by rw [← hlead, h, gfMul_zero_left])
  have hlen : ys.length ≤ xs.length := by simpa [deg] using hd
  rw [pshift_cons hy hscale, gfMul_comm y, hlead, padd_cons_same hx (by simp [deg]; omega)]
  cases xs with
  | nil => exact .inl (by simp [norm])
  | cons z zs =>
    refine .inr (Nat.lt_of_le_of_lt (deg_norm_le _) ?_)
    simp only [deg, List.length_zipWith, List.length_cons]
    omega

/-- What a division of `a` by `b` answers (R151): normalized lists, a quotient of degree at most the difference, and a
remainder that is 0 or of smaller degree than `b`. -/
structure DivBounds (a b q r : Poly) : Prop where
  quot_normalized : Normalized q
  rem_normalized : Normalized r
  quot_deg : deg q ≤ deg a - deg b
  rem_deg : deg r ≤ deg a
  rem_small : r = [0#8] ∨ deg r < deg b

theorem deg_le_of_eq_zero_or_lt {p r : Poly} (h : p = [0#8] ∨ deg p < deg r) : deg p ≤ deg r := by
  rcases h with rfl | h
  · exact Nat.zero_le _
  · exact Nat.le_of_lt h

/-- The loop of the division keeps both lists normalized and ends at a remainder that is 0 or smaller than the divisor:
each pass lowers its degree, so that the fuel does not run out (R151; log 11). -/
theorem pdivLoop_bounds {b : Poly} {inv : Byte} (hb : Normalized b) (hb0 : b ≠ [0#8])
    (hinv : gfInv (coef b (deg b)) = .ok inv) (fuel : Nat) {q r q' r' : Poly} (hq : Normalized q) (hr : Normalized r)
    (hf : r = [0#8] ∨ deg r < fuel) (h : pdivLoop b inv fuel q r = (q', r')) :
    Normalized q' ∧ Normalized r' ∧ deg q' ≤ max (deg q) (deg r - deg b) ∧ deg r' ≤ deg r
      ∧ (r' = [0#8] ∨ deg r' < deg b) := by
  induction fuel generalizing q r with
  | zero =>
    cases h
    exact ⟨hq, hr, Nat.le_max_left .., Nat.le_refl _, .inl (hf.resolve_right (Nat.not_lt_zero _))⟩
  | succ fuel ih =>
    rw [pdivLoop] at h
    split at h
    · obtain ⟨hd, hr0⟩ := ‹_ ∧ _›
      rw [isZero_iff] at hr0
      have hfuel : deg r ≤ fuel := Nat.le_of_lt_succ (hf.resolve_left hr0)
      have hpass := pdiv_pass_deg_lt hb hr hb0 hr0 hinv hd
      have hle := deg_le_of_eq_zero_or_lt hpass
      obtain ⟨hq', hr', hdq, hdr, hsmall⟩ := ih (normalized_padd hq (normalized_mono ..))
        (normalized_padd hr (normalized_pshift ..)) (hpass.imp_right fun hlt => Nat.lt_of_lt_of_le hlt hfuel) h
      have hpadd := deg_padd_le q (mono (deg r - deg b) (gfMul (coef r (deg r)) inv))
      have hmono := deg_mono_le (deg r - deg b) (gfMul (coef r (deg r)) inv)
      exact ⟨hq', hr', by omega, Nat.le_trans hdr hle, hsmall⟩
    · cases h
      refine ⟨hq, hr, Nat.le_max_left .., Nat.le_refl _, ?_⟩
      rename_i hstop
      rw [isZero_iff] at hstop
      by_cases hr0 : r' = [0#8]
      · exact .inl hr0
      · exact .inr (Nat.lt_of_not_le fun hd => hstop ⟨hd, hr0⟩)

/-- Long division of normalized lists stays within these bounds (R151). -/
theorem pdiv_bounds {a b q r : Poly} (ha : Normalized a) (hb : Normalized b) (h : pdiv a b = .ok (q, r)) :
    DivBounds a b q r := by
  unfold pdiv at h
  split at h
  · cases h
  · have hb0 : b ≠ [0#8] := by simpa [isZero_iff] using ‹¬ isZero b = true›
    obtain ⟨inv, hinv, h⟩ := except_bind_eq_ok.1 h
    have hfuel : deg a < a.length := Nat.sub_lt ha.1 Nat.one_pos
    obtain ⟨hq, hr, hdq, hdr, hsmall⟩ :=
      pdivLoop_bounds hb hb0 hinv _ normalized_zero ha (.inr hfuel) (Except.ok.inj h)
    exact ⟨hq, hr, by simpa [deg] using hdq, hdr, hsmall⟩

/-! ### Euclid -/

/-- What every pass of Euclid keeps (R186 to R189), `D` the degree it started from: `t` grows only as far as the
remainders shrink. -/
structure EuclidInv (D : Nat) (rLast r tLast t : Poly) : Prop where
  rLast_normalized : Normalized rLast
  r_normalized : Normalized r
  tLast_normalized : Normalized tLast
  t_normalized : Normalized t
  deg_r_le : deg r ≤ deg rLast
  deg_t_add_rLast : deg t + deg rLast ≤ D
  deg_tLast_add_r : deg tLast + deg r ≤ D

theorem EuclidInv.start {A B : Poly} (hA : Normalized A) (hB : Normalized B) (h : deg B ≤ deg A) :
    EuclidInv (deg A) A B [0#8] [1#8] :=
  ⟨hA, hB, normalized_zero, by decide, h, by simp [deg], by simpa [deg] using h⟩

/-- A pass raises the degree of `t` by that of the quotient, which is what the remainder before it lost (R189). -/
theorem EuclidInv.pass {D : Nat} {rLast r tLast t q r' : Poly} (h : EuclidInv D rLast r tLast t)
    (hq : pdiv rLast r = .ok (q, r')) : EuclidInv D r r' t (padd (pmul q t) tLast) := by
  obtain ⟨hrLast, hr, htLast, ht, hle, ht_add, htLast_add⟩ := h
  obtain ⟨-, hr', hdq, hdr, hsmall⟩ := pdiv_bounds hrLast hr hq
  have hpadd := deg_padd_le (pmul q t) tLast
  have hpmul := deg_pmul_le q ht.ne_nil
  exact ⟨hr, hr', ht, normalized_padd (normalized_pmul q t) htLast, deg_le_of_eq_zero_or_lt hsmall, by omega, by omega⟩

theorem euclidLoop_inv {stop : EuclidStop} {R D fuel : Nat} {rLast r tLast t σ ω : Poly}
    (h : EuclidInv D rLast r tLast t) (hl : euclidLoop stop R fuel rLast r tLast t = .ok (σ, ω)) :
    ∃ rLast' tLast', EuclidInv D rLast' ω tLast' σ := by
  induction fuel generalizing rLast r tLast t with
  | zero => cases hl
  | succ fuel ih =>
    rw [euclidLoop] at hl
    split at hl
    · split at hl
      · cases hl
      · obtain ⟨⟨q, r'⟩, hq, hl⟩ := except_bind_eq_ok.1 hl
        exact ih (h.pass hq) hl
    · cases hl
      exact ⟨_, _, h⟩

/-- Euclid from two normalized lists answers a σ and an ω whose degrees stay below the larger one's. -/
theorem euclidLoop_bounds {stop : EuclidStop} {R fuel : Nat} {A B σ ω : Poly} (hA : Normalized A) (hB : Normalized B)
    (hd : deg B ≤ deg A) (hl : euclidLoop stop R fuel A B [0#8] [1#8] = .ok (σ, ω)) :
    Normalized σ ∧ Normalized ω ∧ deg σ ≤ deg A ∧ deg ω ≤ deg A := by
  obtain ⟨rLast, tLast, -, hω, -, hσ, -, hσd, hωd⟩ := euclidLoop_inv (EuclidInv.start hA hB hd) hl
  exact ⟨hσ, hω, by omega, by omega⟩

/-- σ and ω have at most the degree of the larger of the two lists Euclid starts from (R186, R190). -/
theorem euclid_bounds {stop : EuclidStop} {S : Poly} {R : Nat} {σ ω : Poly} (hS : Normalized S)
    (h : euclid stop S R = .ok (σ, ω)) :
    Normalized σ ∧ Normalized ω ∧ deg σ ≤ max R (deg S) ∧ deg ω ≤ max R (deg S) := by
  have hx := normalized_mono R 1#8
  have hdx := deg_mono_le R 1#8
  obtain ⟨⟨t, r⟩, hl, h⟩ := except_bind_eq_ok.1 h
  have hloop : Normalized t ∧ Normalized r ∧ deg t ≤ max R (deg S) ∧ deg r ≤ max R (deg S) := by
    split at hl
    · obtain ⟨ht, hr, hdt, hdr⟩ := euclidLoop_bounds hS hx (by omega) hl
      exact ⟨ht, hr, by omega, by omega⟩
    · obtain ⟨ht, hr, hdt, hdr⟩ := euclidLoop_bounds hx hS (by omega) hl
      exact ⟨ht, hr, by omega, by omega⟩
  obtain ⟨ht, hr, hdt, hdr⟩ := hloop
  dsimp only at h
  split at h
  · cases h
  · obtain ⟨inv, -, h⟩ := except_bind_eq_ok.1 h
    cases h
    exact ⟨normalized_pscale ht _, normalized_pscale hr _, Nat.le_trans (deg_pscale_le ..) hdt,
      Nat.le_trans (deg_pscale_le ..) hdr⟩

/-! ### What a register may hold -/

/-- What `State.PolysOk` says of one polynomial register (R24). -/
abbrev PolyOk (p : Poly) : Prop := Normalized p ∧ p.length ≤ 512

theorem polyOk_of_deg {p : Poly} (hp : Normalized p) (h : deg p ≤ 511) : PolyOk p :=
  ⟨hp, by unfold deg at h; omega⟩

theorem PolyOk.deg_le {p : Poly} (h : PolyOk p) : deg p ≤ 511 := Nat.sub_le_sub_right h.2 1

theorem State.PolysOk.of_pr {s t : State} (hs : s.PolysOk) (h : SamePR s t) : t.PolysOk := fun i => by
  rw [State.getPR_congr h i]; exact hs i

theorem State.polysOk_of_pr_zero {s : State} (h : s.pr = Vector.replicate 8 [0#8]) : s.PolysOk := fun i => by
  simpa [State.getPR, h] using normalized_zero

theorem State.PolysOk.setPR {s : State} (hs : s.PolysOk) (d : PReg) {p : Poly} (hp : PolyOk p) :
    (s.setPR d p).PolysOk := fun i => by
  rw [State.getPR_setPR_if]
  split
  · exact hp
  · exact hs i

/-- A command keeps the registers normalized when its results are, as an error leaves them as they were (R291). -/
theorem State.PolysOk.settle {s u : State} {r : Except Err State} (hs : s.PolysOk)
    (h : s.settle r = .next u) (hr : Yields State.PolysOk r) : u.PolysOk := by
  obtain ⟨t, ht, rfl⟩ | ⟨e, -, rfl⟩ := State.settle_cases h
  · exact (hr t ht).of_pr t.complete_pr
  · exact hs.of_pr (s.raise_pr e)

/-- An operand check passes when its condition holds. -/
theorem check_eq_ok {α : Type} {c : Prop} [Decidable c] {a b : α} {e : Err} :
    (if c then Except.ok a else .error e) = .ok b ↔ c ∧ a = b := by
  split <;> simp [*]

theorem polyOk_of_capacity {p : Poly} {u : Unit} (hp : Normalized p) (h : capacity p = .ok u) : PolyOk p :=
  ⟨hp, (check_eq_ok.1 h).1⟩

theorem le_of_atMost {max n : Nat} {w : Word} (h : atMost max w = .ok n) : n ≤ max := by
  obtain ⟨hw, rfl⟩ := check_eq_ok.1 h
  exact hw

theorem le_of_byteCount {n : Nat} {w : Word} (h : byteCount w = .ok n) : n ≤ 512 := by
  obtain ⟨⟨-, hw⟩, rfl⟩ := check_eq_ok.1 h
  exact hw

theorem le_of_blockLength {n : Nat} {w : Word} (h : blockLength w = .ok n) : n ≤ 255 := by
  obtain ⟨⟨-, hw⟩, rfl⟩ := check_eq_ok.1 h
  exact hw

theorem le_of_ecCount {n k : Nat} {w : Word} (h : ecCount w n = .ok k) : k ≤ n := by
  obtain ⟨hw, rfl⟩ := check_eq_ok.1 h
  exact hw

theorem polyOk_norm {c : List Byte} (h : c.length ≤ 512) : PolyOk (norm c) :=
  polyOk_of_deg (normalized_norm c) (Nat.le_trans (deg_norm_le c) (by omega))

theorem PolyOk.padd {a b : Poly} (ha : PolyOk a) (hb : PolyOk b) : PolyOk (padd a b) :=
  polyOk_of_deg (normalized_padd ha.1 hb.1) (Nat.le_trans (deg_padd_le a b) (Nat.max_le.2 ⟨ha.deg_le, hb.deg_le⟩))

theorem PolyOk.pscale {a : Poly} (ha : PolyOk a) (c : Byte) : PolyOk (pscale a c) :=
  polyOk_of_deg (normalized_pscale ha.1 c) (Nat.le_trans (deg_pscale_le a c) ha.deg_le)

theorem PolyOk.pdiv {a b q r : Poly} (ha : PolyOk a) (hb : PolyOk b) (h : pdiv a b = .ok (q, r)) :
    PolyOk q ∧ PolyOk r := by
  obtain ⟨hq, hr, hdq, hdr, -⟩ := pdiv_bounds ha.1 hb.1 h
  have hda := ha.deg_le
  exact ⟨polyOk_of_deg hq (by omega), polyOk_of_deg hr (by omega)⟩

theorem PolyOk.euclid {stop : EuclidStop} {S σ ω : Poly} {R : Nat} (hS : PolyOk S) (hR : R ≤ 511)
    (h : euclid stop S R = .ok (σ, ω)) : PolyOk σ ∧ PolyOk ω := by
  obtain ⟨hσ, hω, hdσ, hdω⟩ := euclid_bounds hS.1 h
  have hmax : max R (deg S) ≤ 511 := Nat.max_le.2 ⟨hR, hS.deg_le⟩
  exact ⟨polyOk_of_deg hσ (Nat.le_trans hdσ hmax), polyOk_of_deg hω (Nat.le_trans hdω hmax)⟩

theorem polyOk_syndrome (recv : Poly) {twoS : Nat} (h : twoS ≤ 512) : PolyOk (syndrome recv twoS).1 :=
  polyOk_norm (by simpa using h)

theorem State.readBytes_length (s : State) (a n : Nat) : (s.readBytes a n).length = n := by simp [State.readBytes]

theorem State.cwRead_length (s : State) (a n : Nat) : (s.cwRead a n).length = n := s.readBytes_length _ n

/-! ### Every step -/

/-- R24: every instruction keeps the registers normalized. One that names a destination writes a list that is, and fits;
every other leaves them as they were. -/
theorem exec_polysOk {i : Instr} {s t : State} (hs : s.PolysOk) (h : exec i s = .next t) : t.PolysOk := by
  cases i with
  | clr => cases h; exact State.polysOk_of_pr_zero rfl
  | polyLoad d =>
    exact hs.settle h (.bind fun k hk => .bind fun a _ =>
      .ok (hs.setPR d (polyOk_norm (by rw [s.cwRead_length]; exact le_of_byteCount hk))))
  | polyMono d =>
    exact hs.settle h (.bind fun n hn => .bind fun c _ =>
      .ok (hs.setPR d (polyOk_of_deg (normalized_mono n c) (Nat.le_trans (deg_mono_le n c) (le_of_atMost hn)))))
  | polyAdd d a b => exact hs.settle (r := .ok _) h (.ok (hs.setPR d (PolyOk.padd (hs a) (hs b))))
  | polyMul d a b =>
    exact hs.settle h (.bind fun _ hcap => .ok (hs.setPR d (polyOk_of_capacity (normalized_pmul ..) hcap)))
  | polyScale d a => exact hs.settle h (.bind fun k _ => .ok (hs.setPR d (PolyOk.pscale (hs a) k)))
  | polyShift d a =>
    exact hs.settle h (.bind fun n _ => .bind fun c _ => .bind fun _ hcap =>
      .ok (hs.setPR d (polyOk_of_capacity (normalized_pshift ..) hcap)))
  | polyDiv d e a b =>
    refine hs.settle h (.bind fun _ _ => .bind fun ⟨q, r⟩ hqr => .ok ?_)
    obtain ⟨hq, hr⟩ := PolyOk.pdiv (hs a) (hs b) hqr
    exact (hs.setPR d hq).setPR e hr
  | rsSynd d =>
    refine hs.settle h (.bind fun n hn => .bind fun twoS htwoS => .bind fun a _ => ?_)
    have htwoS_le : twoS ≤ 512 := Nat.le_trans (le_of_ecCount htwoS) (Nat.le_trans (le_of_blockLength hn) (by decide))
    exact .ok (hs.setPR d (polyOk_syndrome (norm (s.cwRead a n)) htwoS_le))
  | rsEuclid d e a =>
    refine hs.settle h (.bind fun _ _ => .bind fun R hR => .bind fun ⟨σ, ω⟩ hσω => .ok ?_)
    obtain ⟨hσ, hω⟩ := PolyOk.euclid (hs a) (le_of_atMost hR) hσω
    exact (hs.setPR d hσ).setPR e hω
  | _ => exact hs.of_pr (exec_samePR rfl h)

theorem sequencerStep_polysOk {s t : State} (hs : s.PolysOk) (h : sequencerStep s = .next t) : t.PolysOk := by
  obtain ⟨-, rfl⟩ | ⟨-, i, -, hi⟩ | ⟨-, e, -, rfl⟩ := sequencerStep_cases h
  · exact hs
  · exact exec_polysOk hs hi
  · exact hs.of_pr (s.fetchFail_samePR e)

theorem State.PolysOk.hostStep {s : State} (hs : s.PolysOk) (op : HostOp) (rest : List HostOp) :
    (s.hostStep op rest).PolysOk := by
  obtain h | h := s.hostStep_pr op rest
  · exact hs.of_pr h
  · exact State.polysOk_of_pr_zero h

/-- Settles O11: the host leaves the registers or resets them, and an instruction writes normalized lists that fit. -/
theorem polyRegistersStayNormalized : Obligations.PolyRegistersStayNormalized := by
  intro s t hs h
  obtain ⟨op, rest, -, -, -, rfl⟩ | ⟨u, hu, hseq⟩ := step_cases h
  · exact hs.hostStep op rest
  · have hus : u.PolysOk := by
      obtain rfl | ⟨rest, -, rfl⟩ := hu
      · exact hs
      · exact hs
    exact sequencerStep_polysOk hus hseq

/-! ### The values after reset -/

/-- Settles O16: every register by the definition of the reset state, the arrays entry by entry. -/
theorem resetValues : Obligations.ResetValues := by
  refine ⟨rfl, rfl, rfl, rfl, rfl, rfl, rfl, rfl, rfl, rfl, rfl, rfl, rfl, fun k => ⟨?_, ?_⟩, fun i => ?_,
    fun a => rfl, rfl, rfl⟩
  · simp
  · simp
  · simp [State.getPR]

end Sys2Proof.Machine
end

section
/-! SUPPORT. Illegal command words: which words the decoder refuses and by which error, and how the sequencer completes
them (30_encoding.md R96, 60_exceptions.md R292). -/

namespace Sys2Proof.Machine

/-! ### What the decoder answers -/

/-- The opcode map is undefined exactly off the table of R93. -/
theorem decodeOp_eq_none_iff (op : Nat) (w : Word) : decodeOp op w = none ↔ op ∉ definedOpcodes := by
  unfold decodeOp
  split
  case h_30 => simp_all [definedOpcodes]
  all_goals simp [definedOpcodes]

theorem decode_of_undefined {w : Word} (h : w.toNat % 256 ∉ definedOpcodes) : decode w = .error .undefinedOpcode := by
  simp [decode, (decodeOp_eq_none_iff _ w).2 h]

theorem decode_of_defined {w : Word} (h : w.toNat % 256 ∈ definedOpcodes) :
    ∃ i, decode w = if w &&& reservedMask = 0#32 then .ok i else .error .reservedBit := by
  cases hi : decodeOp (w.toNat % 256) w with
  | none => exact absurd h ((decodeOp_eq_none_iff _ w).1 hi)
  | some i => exact ⟨i, by simp [decode, hi]⟩

/-! ### What the sequencer does with a refused word -/

/-- A command word that the decoder refuses completes with the decoder's error, and only STATUS changes (R96, R291). -/
theorem step_illegalWord {s : State} {e : Err} (hb : s.seq = .busy) (hseg : s.segActive = false)
    (ht : s.SequencerTurn) (he : decode s.curCmd = .error e) : Answers (step s) (FailedClean e s) :=
  ⟨s.raise e, by simp [step_sequencer ht, sequencerStep, State.fetch, State.fetchFail, hb, hseg, he],
    s.raise_failedClean e⟩

/-- Settles O3: the three branches are the three answers of the decoder, in its order of checks. -/
theorem illegalWordsRaiseIllegal : Obligations.IllegalWordsRaiseIllegal := by
  intro s hb hseg ht
  split
  · exact step_illegalWord hb hseg ht (decode_of_undefined ‹_›)
  · obtain ⟨i, hi⟩ := decode_of_defined (Decidable.not_not.1 ‹_›)
    split
    · exact step_illegalWord hb hseg ht (hi.trans (if_neg ‹_›))
    · exact ⟨i, hi.trans (if_pos (Decidable.not_not.1 ‹_›))⟩

end Sys2Proof.Machine
end

section
/-! SUPPORT. The GF(256) scalar commands: how a command that checks its operands and writes RES0 ends, then GF.ADD, GF.MUL,
GF.INV, GF.EXP and GF.LOG (40_gf256.md section 3). -/

namespace Sys2Proof.Machine

/-! ### Operand checks -/

theorem fieldElement_of_lt {w : Word} (h : w.toNat < 256) : fieldElement w = .ok (w.setWidth 8) := if_pos h

theorem fieldElement_of_le {w : Word} (h : 256 ≤ w.toNat) : fieldElement w = .error .notElement :=
  if_neg (Nat.not_lt.2 h)

theorem atMost_of_le {max : Nat} {w : Word} (h : w.toNat ≤ max) : atMost max w = .ok w.toNat := if_pos h

theorem atMost_of_lt {max : Nat} {w : Word} (h : max < w.toNat) : atMost max w = .error .operandRange :=
  if_neg (Nat.not_le.2 h)

/-- The byte of an operand below 256 is the operand (R123). -/
theorem ofByte_setWidth {w : Word} (h : w.toNat < 256) : Word.ofByte (w.setWidth 8) = w := by
  apply BitVec.eq_of_toNat_eq
  simp only [Word.ofByte, BitVec.toNat_setWidth]
  omega

theorem setWidth_eq_zero_iff {w : Word} (h : w.toNat < 256) : w.setWidth 8 = 0#8 ↔ w = 0#32 :=
  ⟨fun h0 => by rw [← ofByte_setWidth h, h0]; rfl, fun h0 => by rw [h0]; rfl⟩

theorem ofByte_xor (a b : Byte) : Word.ofByte (a ^^^ b) = Word.ofByte a ^^^ Word.ofByte b := BitVec.setWidth_xor

theorem gfInv_of_ne_zero {a : Byte} (h : a ≠ 0#8) : gfInv a = .ok (gfExp (255 - logTable a)) := if_neg h

theorem gfLog_of_ne_zero {a : Byte} (h : a ≠ 0#8) : gfLog a = .ok (logTable a) := if_neg h

/-! ### How a command that checks, then writes RES0, ends -/

/-- A check that fails exactly when `d` ends the command with its error; otherwise the rest of the command decides. -/
theorem State.answers_check {α : Type} {s : State} {x : Except Err α} {d : Prop} [Decidable d] {a : α} {e : Err}
    {f : α → Except Err State} {P : State → Prop} (hfail : d → x = .error e) (hpass : ¬ d → x = .ok a)
    (hrest : ¬ d → Answers (s.settle (f a)) P) :
    Answers (s.settle (x >>= f)) (fun t => if d then FailedClean e s t else P t) := by
  by_cases h : d
  · simp only [if_pos h, hfail h]
    exact ⟨_, rfl, s.raise_failedClean e⟩
  · simp only [if_neg h, hpass h]
    exact hrest h

/-- Two operands that must be field elements raise the same error, so that their order does not show (R129, R130). -/
theorem State.answers_twoElements {s : State} {v w : Word} {f : Byte → Byte → Except Err State} {P : State → Prop}
    (hrest : v.toNat < 256 → w.toNat < 256 → Answers (s.settle (f (v.setWidth 8) (w.setWidth 8))) P) :
    Answers (s.settle (fieldElement v >>= fun a => fieldElement w >>= f a))
      (fun t => if v.toNat < 256 ∧ w.toNat < 256 then P t else FailedClean .notElement s t) := by
  by_cases h : v.toNat < 256 ∧ w.toNat < 256
  · obtain ⟨hv, hw⟩ := h
    simp only [hv, hw, and_self, if_true, fieldElement_of_lt]
    exact hrest hv hw
  · refine ⟨s.raise .notElement, ?_, by simpa only [if_neg h] using s.raise_failedClean _⟩
    by_cases hv : v.toNat < 256
    · have hw : 256 ≤ w.toNat := Nat.not_lt.1 fun hw => h ⟨hv, hw⟩
      rw [fieldElement_of_lt hv, fieldElement_of_le hw]
      rfl
    · rw [fieldElement_of_le (Nat.not_lt.1 hv)]
      rfl

/-- An operand that must be a nonzero field element, for a function `g` of the field that is undefined at 0 alone (R131,
R133). -/
theorem State.answers_nonzeroElement {α : Type} {s : State} {w : Word} {g : Byte → Except Err α} {r : Byte → α}
    {f : α → Except Err State} {P : State → Prop} (hzero : g 0#8 = .error .zeroElement)
    (hg : ∀ a, a ≠ 0#8 → g a = .ok (r a)) (hrest : Answers (s.settle (f (r (w.setWidth 8)))) P) :
    Answers (s.settle (fieldElement w >>= fun a => g a >>= f)) (fun t =>
      if 256 ≤ w.toNat then FailedClean .notElement s t
      else if w = 0#32 then FailedClean .zeroElement s t
      else P t) := by
  refine State.answers_check fieldElement_of_le (fun h => fieldElement_of_lt (Nat.not_le.1 h)) fun h => ?_
  have hw := setWidth_eq_zero_iff (Nat.not_le.1 h)
  exact State.answers_check (fun h0 => by rw [hw.2 h0, hzero]) (fun h0 => hg _ (mt hw.1 h0)) fun _ => hrest

/-- A command whose one result is a number in RES0 leaves RES1 and everything else unchanged. -/
theorem State.answers_setRes0 (s : State) (n : Nat) :
    Answers (s.settle (.ok (s.setRes0 n))) (fun t => CompletedResults s t (BitVec.ofNat 32 n) s.res1) := by
  have hdone : Completed s (s.setRes0 n).complete := State.complete_completed (by simp [SameShell])
  refine ⟨_, rfl, hdone, by simp, by simp, by simp [SameRs], by simp [SamePR], ?_⟩
  exact SameMem.of_mem (by simp) (by simp)

/-- The same for a result that is a byte, `RES0 <- zext_32(b)` (R8). -/
theorem State.answers_setRes0_byte (s : State) (b : Byte) :
    Answers (s.settle (.ok (s.setRes0 b.toNat))) (fun t => CompletedResults s t (Word.ofByte b) s.res1) := by
  simpa only [Word.ofByte, BitVec.ofNat_toNat] using s.answers_setRes0 b.toNat

/-! ### The commands -/

/-- GF.ADD on operands below 256 is the exclusive or of the whole operands (R124, R129). -/
theorem ofByte_gfAdd {v w : Word} (hv : v.toNat < 256) (hw : w.toNat < 256) :
    Word.ofByte (gfAdd (v.setWidth 8) (w.setWidth 8)) = v ^^^ w := by
  rw [gfAdd, ofByte_xor, ofByte_setWidth hv, ofByte_setWidth hw]

theorem ofByte_gfMul (a b : Byte) :
    Word.ofByte (gfMul a b)
      = if a = 0#8 ∨ b = 0#8 then 0#32 else Word.ofByte (gfExp ((logTable a + logTable b) % 255)) :=
  apply_ite Word.ofByte ..

/-- Settles O24: each command's checks in order, and what they leave for RES0. -/
theorem gfCommands : Obligations.GfCommands := by
  intro s
  refine ⟨?add, ?mul, ?inv, ?exp, ?log⟩
  case add =>
    refine State.answers_twoElements fun ha hb => ?_
    rw [← ofByte_gfAdd ha hb]
    exact s.answers_setRes0_byte _
  case mul =>
    refine State.answers_twoElements fun _ _ => ?_
    rw [← ofByte_gfMul]
    exact s.answers_setRes0_byte _
  case inv => exact State.answers_nonzeroElement rfl (fun _ => gfInv_of_ne_zero) (s.answers_setRes0_byte _)
  case exp =>
    exact State.answers_check atMost_of_lt (fun h => atMost_of_le (Nat.not_lt.1 h)) fun _ => s.answers_setRes0_byte _
  case log => exact State.answers_nonzeroElement rfl (fun _ => gfLog_of_ne_zero) (s.answers_setRes0 _)

end Sys2Proof.Machine
end

section
/-! SUPPORT. The polynomial commands: how a command that writes polynomial registers ends, what POLY.STORE leaves in
CWBUF, then the eleven commands (41_poly.md section 2). -/

namespace Sys2Proof.Machine

/-! ### A command that checks one operand first -/

section
variable {s : State} {P : State → Prop}

/-- A field element (R95, R123). -/
theorem State.answers_fieldElement {w : Word} {f : Byte → Except Err State}
    (hrest : Answers (s.settle (f (w.setWidth 8))) P) :
    Answers (s.settle (fieldElement w >>= f))
      (fun t => if 255 < w.toNat then FailedClean .notElement s t else P t) :=
  State.answers_check fieldElement_of_le (fun h => fieldElement_of_lt (Nat.lt_succ_of_le (Nat.not_lt.1 h)))
    fun _ => hrest

/-- A number of at most `max` (R95). -/
theorem State.answers_atMost {max : Nat} {w : Word} {f : Nat → Except Err State}
    (hrest : Answers (s.settle (f w.toNat)) P) :
    Answers (s.settle (atMost max w >>= f))
      (fun t => if max < w.toNat then FailedClean .operandRange s t else P t) :=
  State.answers_check atMost_of_lt (fun h => atMost_of_le (Nat.not_lt.1 h)) fun _ => hrest

/-- A byte count of POLY.LOAD (R153). -/
theorem State.answers_byteCount {w : Word} {f : Nat → Except Err State}
    (hrest : Answers (s.settle (f w.toNat)) P) :
    Answers (s.settle (byteCount w >>= f))
      (fun t => if w.toNat < 1 ∨ 512 < w.toNat then FailedClean .operandRange s t else P t) :=
  State.answers_check (fun h => by rw [byteCount_eq, if_neg (by omega)])
    (fun h => by rw [byteCount_eq, if_pos (by omega)]) fun _ => hrest

/-- A range of CWBUF (R62). -/
theorem State.answers_cwbufRange {w : Word} {n : Nat} {f : Nat → Except Err State}
    (hrest : Answers (s.settle (f w.toNat)) P) :
    Answers (s.settle (cwbufRange w n >>= f))
      (fun t => if 4096 < w.toNat + n then FailedClean .cwbufRange s t else P t) :=
  State.answers_check (fun h => by rw [cwbufRange_eq, if_neg (Nat.not_le.2 h)])
    (fun h => by rw [cwbufRange_eq, if_pos (Nat.not_lt.1 h)]) fun _ => hrest

/-- A result that must fit a register (R146). -/
theorem State.answers_capacity {p : Poly} {f : Unit → Except Err State} (hrest : Answers (s.settle (f ())) P) :
    Answers (s.settle (capacity p >>= f))
      (fun t => if 512 < p.length then FailedClean .polyCapacity s t else P t) :=
  State.answers_check (fun h => by rw [capacity_eq, if_neg (Nat.not_le.2 h)])
    (fun h => by rw [capacity_eq, if_pos (Nat.not_lt.1 h)]) fun _ => hrest

/-- Two destinations that must differ (R293); what follows may use that they do. -/
theorem State.answers_distinct {d e : PReg} {f : Unit → Except Err State}
    (hrest : d ≠ e → Answers (s.settle (f ())) P) :
    Answers (s.settle (distinct d e >>= f))
      (fun t => if d = e then FailedClean .sameDestination s t else P t) :=
  State.answers_check (fun h => if_pos h) (fun h => if_neg h) hrest

end

/-! ### A command that writes polynomial registers -/

/-- Completing a state that is `s` but for register `d`, RES0 and RES1. -/
theorem State.complete_completedPoly {s u : State} {d : PReg} {p : Poly} (hshell : SameShell s u)
    (hpr : SamePR (s.setPR d p) u) (hrs : SameRs s u) (hmem : SameMem s u) :
    CompletedPoly s u.complete d p u.res0 u.res1 := by
  have hget : ∀ i, u.complete.getPR i = (s.setPR d p).getPR i := State.getPR_congr hpr
  refine ⟨State.complete_completed hshell, ?_, fun i hi => ?_, rfl, rfl, hrs, hmem⟩
  · rw [hget, State.getPR_setPR]
  · rw [hget, State.getPR_setPR_ne s p fun h => hi (by simp [h])]

theorem State.answers_setPR (s : State) (d : PReg) (p : Poly) :
    Answers (s.settle (.ok (s.setPR d p))) (fun t => CompletedPoly s t d p s.res0 s.res1) :=
  ⟨_, rfl, State.complete_completedPoly (.refl s) (.refl _) (.refl s) (.refl s)⟩

theorem State.answers_setPR_setRes0 (s : State) (d : PReg) (p : Poly) (n : Nat) :
    Answers (s.settle (.ok ((s.setPR d p).setRes0 n))) (fun t => CompletedPoly s t d p (BitVec.ofNat 32 n) s.res1) :=
  ⟨_, rfl, State.complete_completedPoly (.refl s) (.refl _) (.refl s) (.refl s)⟩

/-- A command that writes two registers: the second write leaves the first as it is, since they differ. -/
theorem State.answers_setPR_setPR (s : State) {d e : PReg} (hde : d ≠ e) (q r : Poly) :
    Answers (s.settle (.ok ((s.setPR d q).setPR e r))) (fun t =>
      Completed s t ∧ t.getPR d = q ∧ t.getPR e = r ∧ SamePRExcept s t [d, e] ∧ SameResults s t ∧ SameRs s t
        ∧ SameMem s t) := by
  have hget : ∀ i, ((s.setPR d q).setPR e r).complete.getPR i = ((s.setPR d q).setPR e r).getPR i :=
    State.getPR_congr rfl
  refine ⟨_, rfl, State.complete_completed (.refl s), ?_, ?_, fun i hi => ?_, .refl s, .refl s, .refl s⟩
  · rw [hget, State.getPR_setPR_ne _ r hde.symm, State.getPR_setPR]
  · rw [hget, State.getPR_setPR]
  · obtain ⟨hid, hie⟩ : i ≠ d ∧ i ≠ e := by simpa using hi
    rw [hget, State.getPR_setPR_ne _ r hie.symm, State.getPR_setPR_ne s q hid.symm]

/-! ### A command that writes CWBUF -/

/-- Bytes just written read back. -/
theorem State.readBytes_writeBytes (s : State) (a : Nat) (vs : List Byte) :
    (s.writeBytes a vs).readBytes a vs.length = vs := by
  apply List.ext_getElem
  · exact State.readBytes_length ..
  · intro k _ hk
    simp [State.readBytes, State.readByte_writeBytes, hk]

/-- A write of bytes changes no other byte. -/
theorem State.writeBytes_sameMemExcept (s : State) (a : Nat) (vs : List Byte) :
    SameMemExcept s (s.writeBytes a vs) (fun x => a ≤ x ∧ x < a + vs.length) :=
  fun x hx => by rw [State.readByte_writeBytes, if_neg hx]

/-! ### Division -/

/-- The leading coefficient of a normalized list other than the zero polynomial is not 0 (R24). -/
theorem Normalized.coef_deg_ne_zero {p : Poly} (h : Normalized p) (h0 : p ≠ [0#8]) : coef p (deg p) ≠ 0#8 := by
  obtain ⟨c, cs, rfl, hc⟩ := h.exists_cons h0
  rwa [coef_deg_cons]

theorem pdiv_zero (a : Poly) : pdiv a [0#8] = .error .zeroDivisor := rfl

/-- Division by a normalized divisor other than 0 answers: the leading coefficient has an inverse (R151). -/
theorem pdiv_of_ne_zero (a : Poly) {b : Poly} (hb : Normalized b) (h0 : b ≠ [0#8]) :
    pdiv a b = .ok (pdivLoop b (gfExp (255 - logTable (coef b (deg b)))) a.length [0#8] a) := by
  rw [pdiv, if_neg (mt (isZero_iff b).1 h0), gfInv_of_ne_zero (hb.coef_deg_ne_zero h0)]
  rfl

/-! ### The commands -/

/-- Settles O29: the two checks in order, then the normalized bytes and their degree. -/
theorem polyLoadCommand : Obligations.PolyLoadCommand := by
  intro d s
  exact State.answers_byteCount (State.answers_cwbufRange (s.answers_setPR_setRes0 d _ _))

/-- Settles O30: the range check, then one write of the register's bytes. -/
theorem polyStoreCommand : Obligations.PolyStoreCommand := by
  intro a s
  refine State.answers_cwbufRange ⟨_, rfl, ?_, ?_, ?_, rfl, ?_, ?_, ?_⟩
  · exact State.complete_completed (by simp [SameShell])
  · exact s.readBytes_writeBytes _ (s.getPR a)
  · exact s.writeBytes_sameMemExcept _ (s.getPR a)
  · simp
  · simp [SameRs]
  · simp [SamePR]

/-- Settles O31: each command's checks in order, then one register write. -/
theorem polyMonoScaleShiftCommands : Obligations.PolyMonoScaleShiftCommands := by
  intro d a s
  refine ⟨?mono, ?scale, ?shift⟩
  case mono => exact State.answers_atMost (State.answers_fieldElement (s.answers_setPR d _))
  case scale => exact State.answers_fieldElement (s.answers_setPR d _)
  case shift =>
    exact State.answers_atMost (State.answers_fieldElement (State.answers_capacity (s.answers_setPR d _)))

/-- Settles O32: what is written is computed from the state the command was issued in, whichever registers it names. -/
theorem polyAddMulDivCommands : Obligations.PolyAddMulDivCommands := by
  intro d e a b s
  refine ⟨?add, ?mul, fun hs => ?div⟩
  case add => exact s.answers_setPR d _
  case mul => exact State.answers_capacity (s.answers_setPR d _)
  case div =>
    obtain ⟨hb, -⟩ := hs b
    refine State.answers_distinct fun hde => ?_
    refine State.answers_check (fun h0 => by rw [h0, pdiv_zero]) (pdiv_of_ne_zero (s.getPR a) hb) fun h0 => ?_
    obtain ⟨t, ht, hresult⟩ := s.answers_setPR_setPR hde _ _
    exact ⟨t, ht, _, _, pdiv_of_ne_zero (s.getPR a) hb h0, hresult⟩

/-- Settles O33: one result, or the degree and the test on zero, read from the register. -/
theorem polyEvalDegCoefCommands : Obligations.PolyEvalDegCoefCommands := by
  intro a s
  refine ⟨?eval, ?deg, ?coef⟩
  case eval => exact State.answers_fieldElement (s.answers_setRes0_byte _)
  case deg =>
    refine ⟨_, rfl, State.complete_completed (.refl s), rfl, ?_, .refl s, .refl s, .refl s⟩
    by_cases h : s.getPR a = [0#8] <;> simp [isZero, h]
  case coef => exact s.answers_setRes0_byte _

end Sys2Proof.Machine
end

section
/-! SUPPORT. The stages of the Reed-Solomon decoder: the coefficients of a syndrome polynomial, Chien's search, when
Forney's formula and the byte positions are defined (42_reed_solomon.md R183 to R195). -/

namespace Sys2Proof.Machine

/-! ### Lists -/

/-- An entry inside the list. -/
theorem getD_of_lt {L : List Byte} {i : Nat} (h : i < L.length) : L.getD i 0#8 = L[i] := by
  rw [List.getD_eq_getElem?_getD, List.getElem?_eq_getElem h, Option.getD_some]

/-- An entry past the end of the list. -/
theorem getD_of_le {L : List Byte} {i : Nat} (h : L.length ≤ i) : L.getD i 0#8 = 0#8 := by
  rw [List.getD_eq_getElem?_getD, List.getElem?_eq_none h, Option.getD_none]

theorem getD_append_of_lt {L M : List Byte} {i : Nat} (h : i < L.length) : (L ++ M).getD i 0#8 = L.getD i 0#8 := by
  rw [List.getD_eq_getElem?_getD, List.getElem?_append_left h, ← List.getD_eq_getElem?_getD]

theorem getD_append_of_le {L M : List Byte} {i : Nat} (h : L.length ≤ i) :
    (L ++ M).getD i 0#8 = M.getD (i - L.length) 0#8 := by
  rw [List.getD_eq_getElem?_getD, List.getElem?_append_right h, ← List.getD_eq_getElem?_getD]

/-- A zero at the end reads as the end of the list does. -/
theorem getD_append_zero (L : List Byte) (i : Nat) : (L ++ [0#8]).getD i 0#8 = L.getD i 0#8 := by
  rcases Nat.lt_or_ge i L.length with h | h
  · exact getD_append_of_lt h
  · rw [getD_append_of_le h, getD_of_le h]
    cases i - L.length <;> rfl

/-- A map that separates the list's elements keeps them distinct. -/
theorem nodup_map_of_inj {α β : Type} {f : α → β} {L : List α} (hf : ∀ x ∈ L, ∀ y ∈ L, f x = f y → x = y)
    (hL : L.Nodup) : (L.map f).Nodup :=
  List.pairwise_map.2 (List.Pairwise.imp_of_mem (fun hx hy hne h => hne (hf _ hx _ hy h)) hL)

/-! ### Syndromes -/

/-- A coefficient is counted from the end of the list, and is 0 beyond it (R144). -/
theorem coef_eq_reverse_getD (c : List Byte) (i : Nat) : coef c i = c.reverse.getD i 0#8 := by
  rcases Nat.lt_or_ge i c.length with h | h
  · rw [coef, if_pos (by simp only [deg]; omega), getD_of_lt (by omega),
      getD_of_lt (by rwa [List.length_reverse]), List.getElem_reverse]
  · rw [getD_of_le (by rwa [List.length_reverse]), coef, ite_eq_right_iff]
    intro hd
    obtain rfl : c = [] := List.eq_nil_of_length_eq_zero (by simp only [deg] at hd; omega)
    rfl

theorem coef_norm (c : List Byte) (i : Nat) : coef (norm c) i = coef c i := by
  simp only [coef_eq_reverse_getD]
  induction c using norm.induct with
  | case1 => cases i <;> simp [norm]
  | case2 c => rfl
  | case3 d cs ih =>
    rw [norm_zero_cons, ih, List.reverse_cons (a := 0#8), getD_append_zero]
  | case4 c d cs hc => rw [norm_cons_of_ne_zero hc]

theorem norm_eq_zero_iff (c : List Byte) : norm c = [0#8] ↔ ∀ x ∈ c, x = 0#8 := by
  induction c using norm.induct with
  | case1 => simp [norm]
  | case2 c => simp [norm]
  | case3 d cs ih => rw [norm_zero_cons, ih]; simp
  | case4 c d cs hc => simp [norm_cons_of_ne_zero hc, hc]

/-- The i-th syndrome stands at x^i (R183, R184). -/
theorem coef_syndrome (recv : Poly) (twoS i : Nat) :
    coef (syndrome recv twoS).1 i = if i < twoS then peval recv (gfExp i) else 0#8 := by
  rw [syndrome, coef_norm, coef_eq_reverse_getD, List.reverse_reverse]
  split
  · rw [getD_of_lt (by simpa), List.getElem_map, List.getElem_range]
    rfl
  · exact getD_of_le (by simpa using Nat.not_lt.1 ‹_›)

theorem syndrome_noError_iff (recv : Poly) (twoS : Nat) :
    (syndrome recv twoS).2 = true ↔ ∀ i < twoS, peval recv (gfExp i) = 0#8 := by
  simp only [syndrome, List.all_map, List.all_eq_true, List.mem_range, Function.comp_apply, decide_eq_true_eq]
  rfl

theorem syndrome_eq_zero_iff (recv : Poly) (twoS : Nat) :
    (syndrome recv twoS).1 = [0#8] ↔ (syndrome recv twoS).2 = true := by
  simp [syndrome, norm_eq_zero_iff]

/-! ### Chien's search -/

theorem ofNat_byte_inj_iff {i j : Nat} (hi : i < 256) (hj : j < 256) : BitVec.ofNat 8 i = BitVec.ofNat 8 j ↔ i = j := by
  rw [← BitVec.toNat_inj, BitVec.toNat_ofNat, BitVec.toNat_ofNat, Nat.mod_eq_of_lt hi, Nat.mod_eq_of_lt hj]

/-- The nonzero roots among the `left` elements from `i` up, in rising order (R192). -/
def rootsFrom (sigma : Poly) (left i : Nat) : List Byte :=
  ((List.range' i left).map (BitVec.ofNat 8)).filter fun x => peval sigma x = 0#8

theorem rootsFrom_succ (sigma : Poly) (left i : Nat) :
    rootsFrom sigma (left + 1) i =
      if peval sigma (BitVec.ofNat 8 i) = 0#8 then BitVec.ofNat 8 i :: rootsFrom sigma left (i + 1)
      else rootsFrom sigma left (i + 1) := by
  simp [rootsFrom, List.range'_succ, List.filter_cons]

/-- The inverse that a root stands for (R192). -/
def gfInverse (x : Byte) : Byte := gfExp (255 - logTable x)

/-- The search takes the first `want` roots it meets (R192). -/
theorem chienFrom_eq (sigma : Poly) {left want i : Nat} (hi : 1 ≤ i) (hle : i + left ≤ 256) :
    chienFrom sigma left want i = .ok (((rootsFrom sigma left i).take want).map gfInverse) := by
  induction left generalizing want i with
  | zero => simp [chienFrom, rootsFrom]
  | succ left ih =>
    cases want with
    | zero => simp [chienFrom]
    | succ want =>
      have hne : BitVec.ofNat 8 i ≠ 0#8 := by rw [Ne, ofNat_byte_inj_iff (by omega) (by omega)]; omega
      rw [chienFrom, gfInv_of_ne_zero hne, ih (by omega) (by omega), ih (by omega) (by omega)]
      rw [rootsFrom_succ]
      split <;> rfl

theorem chien_eq (sigma : Poly) :
    chien sigma =
      if deg sigma ≤ (rootsFrom sigma 255 1).length then
        .ok (((rootsFrom sigma 255 1).take (deg sigma)).map gfInverse)
      else .error .rootCount := by
  rw [chien, chienFrom_eq sigma (by omega) (by omega)]
  have hlen : (((rootsFrom sigma 255 1).take (deg sigma)).map gfInverse).length = deg sigma
      ↔ deg sigma ≤ (rootsFrom sigma 255 1).length := by
    rw [List.length_map, List.length_take]
    omega
  by_cases h : deg sigma ≤ (rootsFrom sigma 255 1).length
  · rw [if_pos h]
    exact if_pos (hlen.2 h)
  · rw [if_neg h]
    exact if_neg (mt hlen.1 h)

/-- Settles O37: the search for all 255 nonzero elements, cut off at the degree. -/
theorem chienFindsTheRoots : Obligations.ChienFindsTheRoots := by
  intro sigma
  rw [chien_eq, rootsFrom, List.range'_eq_map_range, List.map_map]
  simp only [Nat.add_comm 1, Function.comp_def]
  rfl

theorem gfInverse_ne_zero (x : Byte) : gfInverse x ≠ 0#8 := gfExp_ne_zero (by omega)

theorem gfInverse_inj {x y : Byte} (hx : x ≠ 0#8) (hy : y ≠ 0#8) (h : gfInverse x = gfInverse y) : x = y := by
  have hlog := congrArg logTable h
  rw [gfInverse, gfInverse, logTable_gfExp (by omega), logTable_gfExp (by omega)] at hlog
  have hlx := logTable_lt x
  have hly := logTable_lt y
  rw [← gfExp_logTable hx, ← gfExp_logTable hy, show logTable x = logTable y by omega]

/-- The search looks at each nonzero element once. -/
theorem rootsFrom_one_nodup (sigma : Poly) : (rootsFrom sigma 255 1).Nodup := by
  refine List.Pairwise.filter _ (nodup_map_of_inj (fun i hi j hj h => ?_) List.nodup_range')
  rw [List.mem_range'_1] at hi hj
  exact (ofNat_byte_inj_iff (by omega) (by omega)).1 h

theorem ne_zero_of_mem_rootsFrom_one {sigma : Poly} {x : Byte} (h : x ∈ rootsFrom sigma 255 1) : x ≠ 0#8 := by
  obtain ⟨i, hi, rfl⟩ := List.mem_map.1 (List.mem_filter.1 h).1
  rw [List.mem_range'_1] at hi
  rw [Ne, ofNat_byte_inj_iff (by omega) (by omega)]
  omega

theorem rootsFrom_length_le (sigma : Poly) (left i : Nat) : (rootsFrom sigma left i).length ≤ left := by
  have h := List.length_filter_le (fun x => peval sigma x = 0#8) ((List.range' i left).map (BitVec.ofNat 8))
  rwa [List.length_map, List.length_range'] at h

/-- What the search finds are distinct nonzero locations, no more than there are nonzero elements (R192). -/
theorem chien_locations {sigma : Poly} {L : List Byte} (h : chien sigma = .ok L) :
    L.Nodup ∧ 0#8 ∉ L ∧ L.length ≤ 255 := by
  rw [chien_eq, check_eq_ok] at h
  obtain ⟨-, rfl⟩ := h
  have hne : ∀ x ∈ (rootsFrom sigma 255 1).take (deg sigma), x ≠ 0#8 := fun x hx =>
    ne_zero_of_mem_rootsFrom_one (List.mem_of_mem_take hx)
  refine ⟨?_, ?_, ?_⟩
  · exact nodup_map_of_inj (fun x hx y hy => gfInverse_inj (hne x hx) (hne y hy))
      ((rootsFrom_one_nodup sigma).sublist (List.take_sublist ..))
  · intro h0
    obtain ⟨x, -, hx⟩ := List.mem_map.1 h0
    exact gfInverse_ne_zero x hx
  · have hlen := rootsFrom_length_le sigma 255 1
    rw [List.length_map, List.length_take]
    omega

/-! ### Forney's formula and the byte positions -/

/-- A computation that answers at every element answers the list of its answers. -/
theorem mapM_eq_ok {α β : Type} {f : α → Except Err β} {g : α → β} {L : List α} (h : ∀ x ∈ L, f x = .ok (g x)) :
    L.mapM f = .ok (L.map g) := by
  induction L with
  | nil => rfl
  | cons x xs ih =>
    rw [List.mapM_cons, h x List.mem_cons_self, ih fun y hy => h y (List.mem_cons_of_mem x hy)]
    rfl

theorem eq_of_gfMul_gfInverse {X Y : Byte} (hY : Y ≠ 0#8) (h : gfMul X (gfInverse Y) = 1#8) : X = Y := by
  have hone : ∀ Z, gfMul 1#8 Z = Z := by decide +kernel
  have hX := gfMul_gfInv_gfMul (gfInv_of_ne_zero hY) X
  rw [← hX, ← gfInverse, h, hone]

theorem foldl_gfMul_ne_zero {f : Byte → Byte} {Xs : List Byte} {den : Byte} (hden : den ≠ 0#8)
    (h : ∀ X ∈ Xs, f X ≠ 0#8) : Xs.foldl (fun den X => gfMul den (f X)) den ≠ 0#8 := by
  induction Xs generalizing den with
  | nil => exact hden
  | cons X Xs ih =>
    exact ih (gfMul_ne_zero hden (h X List.mem_cons_self)) fun Y hY => h Y (List.mem_cons_of_mem X hY)

/-- No factor of the denominator is 0, as another location times the inverse of this one is not 1 (R193). -/
theorem forneyDen_ne_zero {L : List Byte} {k : Nat} (hL : L.Nodup) (h0 : 0#8 ∉ L) (hk : k < L.length) :
    forneyDen L k (gfInverse L[k]) ≠ 0#8 := by
  refine foldl_gfMul_ne_zero (by decide) fun X hX hzero => ?_
  obtain ⟨i, hi, hik, rfl⟩ := List.mem_eraseIdx_iff_getElem.1 hX
  have hone : gfMul L[i] (gfInverse L[k]) = 1#8 := (BitVec.xor_eq_zero_iff.1 hzero).symm
  have hLk : L[k] ≠ 0#8 := fun e => h0 (e ▸ List.getElem_mem hk)
  exact hik ((List.getElem_inj hL).1 (eq_of_gfMul_gfInverse hLk hone))

/-- Forney's formula where it is defined (R193). -/
def forneyValue (omega : Poly) (L : List Byte) (k : Nat) : Byte :=
  let xinv := gfInverse (L.getD k 0#8)
  gfMul (peval omega xinv) (gfInverse (forneyDen L k xinv))

/-- Distinct nonzero locations have a magnitude each (R193). -/
theorem forney_eq_ok (omega : Poly) {L : List Byte} (hL : L.Nodup) (h0 : 0#8 ∉ L) :
    forney omega L = .ok ((List.range L.length).map (forneyValue omega L)) := by
  refine mapM_eq_ok fun k hk => ?_
  have hk := List.mem_range.1 hk
  have hLk : L[k] ≠ 0#8 := fun e => h0 (e ▸ List.getElem_mem hk)
  have hden := forneyDen_ne_zero hL h0 hk
  rw [gfInverse] at hden
  simp only [forneyMagnitude, forneyValue, getD_of_lt hk, gfInv_of_ne_zero hLk, gfInverse]
  simp only [bind, Except.bind, gfInv_of_ne_zero hden]
  rfl

theorem forney_answers (omega : Poly) {L : List Byte} (hL : L.Nodup) (h0 : 0#8 ∉ L) :
    ∃ M, forney omega L = .ok M ∧ M.length = L.length :=
  ⟨_, forney_eq_ok omega hL h0, by simp⟩

/-- The position in a block of `n` bytes of the byte with the location `X` (R195). -/
def position (n : Nat) (X : Byte) : Nat := n - 1 - logTable X

/-- The positions of nonzero locations, unless one lies outside the block (R195). -/
theorem positions_eq {n : Nat} {L : List Byte} (h0 : 0#8 ∉ L) :
    positions n L = if ∃ X ∈ L, n ≤ logTable X then .error .negativePosition else .ok (L.map (position n)) := by
  rw [positions, mapM_eq_ok fun X hX => gfLog_of_ne_zero fun e => h0 (e ▸ hX)]
  have hall : (L.map logTable).all (· < n) = true ↔ ¬ ∃ X ∈ L, n ≤ logTable X := by simp
  by_cases h : ∃ X ∈ L, n ≤ logTable X
  · rw [if_pos h]
    exact if_neg (mt hall.1 (not_not_intro h))
  · rw [if_neg h]
    exact (if_pos (hall.2 h)).trans (congrArg Except.ok List.map_map)

/-- Different locations inside the block have different positions (R195). -/
theorem positions_nodup {n : Nat} {L : List Byte} (hL : L.Nodup) (h0 : 0#8 ∉ L) (hin : ∀ X ∈ L, logTable X < n) :
    (L.map (position n)).Nodup := by
  refine nodup_map_of_inj (fun X hX Y hY h => ?_) hL
  have hlX := hin X hX
  have hlY := hin Y hY
  have hlog : logTable X = logTable Y := by simp only [position] at h; omega
  rw [← gfExp_logTable fun e => h0 (e ▸ hX), ← gfExp_logTable fun e => h0 (e ▸ hY), hlog]

end Sys2Proof.Machine
end

section
/-! SUPPORT. The Reed-Solomon commands: how each check of an operand ends, what a correction leaves in CWBUF, then
RS.SYND, RS.EUCLID, RS.CHIEN, RS.FORNEY, RS.APPLY and RS.DECODE (42_reed_solomon.md section 2). -/

namespace Sys2Proof.Machine

/-! ### How the first part of a command ends -/

section
variable {s : State} {P : State → Prop}

/-- A block length (R181). -/
theorem State.answers_blockLength {w : Word} {f : Nat → Except Err State} (hrest : Answers (s.settle (f w.toNat)) P) :
    Answers (s.settle (blockLength w >>= f))
      (fun t => if w.toNat < 1 ∨ 255 < w.toNat then FailedClean .rsLength s t else P t) :=
  State.answers_check (fun h => by rw [blockLength_eq, if_neg (by omega)])
    (fun h => by rw [blockLength_eq, if_pos (by omega)]) fun _ => hrest

/-- A number of EC codewords (R181). -/
theorem State.answers_ecCount {w : Word} {n : Nat} {f : Nat → Except Err State}
    (hrest : Answers (s.settle (f w.toNat)) P) :
    Answers (s.settle (ecCount w n >>= f))
      (fun t => if n < w.toNat then FailedClean .rsLength s t else P t) :=
  State.answers_check (fun h => by rw [ecCount_eq, if_neg (Nat.not_le.2 h)])
    (fun h => by rw [ecCount_eq, if_pos (Nat.not_lt.1 h)]) fun _ => hrest

/-- A stage of the decoder raises its error, or the rest of the command decides. -/
theorem State.answers_stage {α : Type} {x : Except Err α} {f : α → Except Err State}
    (herror : ∀ e, x = .error e → ∀ t, FailedClean e s t → P t)
    (hrest : ∀ a, x = .ok a → Answers (s.settle (f a)) P) : Answers (s.settle (x >>= f)) P := by
  cases hx : x with
  | error e => exact ⟨_, rfl, herror e hx _ (s.raise_failedClean e)⟩
  | ok a => exact hrest a hx

theorem State.answers_ok {α : Type} {x : Except Err α} {f : α → Except Err State} {a : α} (hx : x = .ok a)
    (hrest : Answers (s.settle (f a)) P) : Answers (s.settle (x >>= f)) P := by
  rw [hx]; exact hrest

/-- A command that goes one of two ways, on a flag of its own. -/
theorem State.answers_ite {b : Bool} {d : Prop} [Decidable d] {x y : Except Err State} {Q : State → Prop}
    (hd : d ↔ b = true) (hx : Answers (s.settle x) P) (hy : Answers (s.settle y) Q) :
    Answers (s.settle (if b = true then x else y)) (fun t => if d then P t else Q t) := by
  by_cases h : d
  · simpa only [if_pos h, if_pos (hd.1 h)] using hx
  · simpa only [if_neg h, if_neg (mt hd.2 h)] using hy

theorem State.answers_positions {n : Nat} {L : List Byte} {f : List Nat → Except Err State} (h0 : 0#8 ∉ L)
    (hrest : (∀ X ∈ L, logTable X < n) → Answers (s.settle (f (L.map (position n)))) P) :
    Answers (s.settle (positions n L >>= f))
      (fun t => if ∃ X ∈ L, n ≤ logTable X then FailedClean .negativePosition s t else P t) :=
  State.answers_check (fun h => by rw [positions_eq h0, if_pos h]) (fun h => by rw [positions_eq h0, if_neg h])
    fun h => hrest (by simpa using h)

end

/-! ### Corrections -/

theorem State.readByte_cwXor (s : State) (a b : Nat) (m : Byte) :
    (s.cwXor a m).readByte b = if b = cwbufAddr a then s.readByte b ^^^ m else s.readByte b := by
  rw [State.cwXor, State.readByte_writeByte]
  split <;> simp [*]

/-- A byte at none of the corrected positions is unchanged. -/
theorem State.readByte_cwCorrect_of_notMem {s : State} {a b : Nat} {cs : List (Nat × Byte)}
    (h : ∀ c ∈ cs, b ≠ cwbufAddr (a + c.1)) : (s.cwCorrect a cs).readByte b = s.readByte b := by
  induction cs generalizing s with
  | nil => rfl
  | cons c cs ih =>
    rw [State.cwCorrect, ih fun d hd => h d (List.mem_cons_of_mem c hd), State.readByte_cwXor,
      if_neg (h c List.mem_cons_self)]

/-- With different positions each corrected byte takes its own magnitude alone. -/
theorem State.readByte_cwCorrect_of_mem {s : State} {a : Nat} {cs : List (Nat × Byte)} {c : Nat × Byte}
    (hcs : (cs.map Prod.fst).Nodup) (hc : c ∈ cs) :
    (s.cwCorrect a cs).readByte (cwbufAddr (a + c.1)) = s.readByte (cwbufAddr (a + c.1)) ^^^ c.2 := by
  induction cs generalizing s with
  | nil => cases hc
  | cons d cs ih =>
    obtain ⟨hd, hcs⟩ := List.nodup_cons.1 hcs
    have hne : ∀ x ∈ cs, cwbufAddr (a + d.1) ≠ cwbufAddr (a + x.1) := fun x hx e =>
      hd (List.mem_map.2 ⟨x, hx, by simp only [cwbufAddr] at e; omega⟩)
    rw [State.cwCorrect]
    obtain rfl | hc := List.mem_cons.1 hc
    · rw [State.readByte_cwCorrect_of_notMem hne, State.readByte_cwXor, if_pos rfl]
    · rw [ih hcs hc, State.readByte_cwXor, if_neg (hne c hc).symm]

theorem cwbufAddr_add (a p : Nat) : cwbufAddr (a + p) = 0x01000 + a + p := (Nat.add_assoc ..).symm

/-- Distinct locations inside the block correct a byte each (R195). -/
theorem State.readByte_cwCorrect_positions (s : State) (a : Nat) {n k : Nat} {L M : List Byte}
    (hM : M.length = L.length) (hL : L.Nodup) (h0 : 0#8 ∉ L) (hin : ∀ X ∈ L, logTable X < n) (hk : k < L.length) :
    (s.cwCorrect a ((L.map (position n)).zip M)).readByte (0x01000 + a + position n (L.getD k 0#8))
      = s.readByte (0x01000 + a + position n (L.getD k 0#8)) ^^^ M.getD k 0#8 := by
  have hfst : (((L.map (position n)).zip M).map Prod.fst).Nodup := by
    rw [List.map_fst_zip (by simp [hM])]
    exact positions_nodup hL h0 hin
  have hmem : (position n L[k], M[k]) ∈ (L.map (position n)).zip M :=
    List.mem_iff_getElem.2 ⟨k, by simpa [hM] using hk, by simp⟩
  rw [getD_of_lt hk, getD_of_lt (hM ▸ hk), ← cwbufAddr_add]
  exact State.readByte_cwCorrect_of_mem hfst hmem

/-- The corrections reach no byte but those of the locations (R195). -/
theorem State.cwCorrect_positions_sameMemExcept (s : State) (a n : Nat) (L M : List Byte) :
    SameMemExcept s (s.cwCorrect a ((L.map (position n)).zip M))
      (fun x => ∃ X ∈ L, x = 0x01000 + a + position n X) := by
  intro x hx
  refine State.readByte_cwCorrect_of_notMem fun ⟨p, m⟩ hc hxp => hx ?_
  obtain ⟨X, hX, rfl⟩ := List.mem_map.1 (List.of_mem_zip hc).1
  exact ⟨X, hX, hxp.trans (cwbufAddr_add ..)⟩

/-! ### The RS arrays -/

theorem rsArray_getElem (L : List Byte) (k : Fin 255) : (rsArray L)[k] = L.getD k.val 0#8 := by
  simp [rsArray]

theorem take_toList_length (v : Vector Byte 255) (n : Byte) : (v.toList.take n.toNat).length = n.toNat := by
  have : n.toNat < 256 := n.isLt
  rw [List.length_take, Vector.length_toList]
  omega

theorem take_toList_getD (v : Vector Byte 255) {n : Nat} {k : Fin 255} (h : k.val < n) :
    (v.toList.take n).getD k.val 0#8 = v[k] := by
  simp [h]

/-! ### A flag in RES0 (R8) -/

theorem ofNat_boolToNat_eq_one_iff (b : Bool) : BitVec.ofNat 32 b.toNat = 1#32 ↔ b = true := by
  revert b; decide

theorem ofNat_boolToNat_eq_zero_or_one (b : Bool) :
    BitVec.ofNat 32 b.toNat = 0#32 ∨ BitVec.ofNat 32 b.toNat = 1#32 := by
  revert b; decide

/-! ### The commands -/

/-- Settles O34: the checks in order, then the syndromes at the points of R183 and the test on them. -/
theorem rsSyndCommand : Obligations.RsSyndCommand := by
  intro d s
  refine State.answers_blockLength (State.answers_ecCount (State.answers_cwbufRange ?_))
  obtain ⟨t, ht, hdone, hd, hpr, h0, h1, hrs, hmem⟩ := s.answers_setPR_setRes0 d _ _
  refine ⟨t, ht, hdone, ?_, fun i => ?_, ?_, ?_, h1, hpr, hrs, hmem⟩
  · rw [hd]; exact normalized_norm _
  · rw [hd]; exact coef_syndrome _ _ i
  · rw [h0]; exact (ofNat_boolToNat_eq_one_iff _).trans (syndrome_noError_iff _ _)
  · rw [h0]; exact ofNat_boolToNat_eq_zero_or_one _

/-- Settles O39: the checks in order, then the stage's answer stored or its error raised; a state that meets
`State.RsOk` has distinct nonzero locations, for which Forney's formula is defined. -/
theorem rsEuclidChienForneyCommands : Obligations.RsEuclidChienForneyCommands := by
  refine ⟨fun d e a s => ?euclid, fun a s => ?chien, fun a s hs => ?forney⟩
  case euclid =>
    refine State.answers_distinct fun hde => State.answers_atMost ?_
    refine State.answers_stage (fun err herr t ht => by rwa [herr]) fun ⟨sigma, omega⟩ hso => ?_
    rw [hso]
    exact s.answers_setPR_setPR hde sigma omega
  case chien =>
    refine State.answers_stage (fun err herr t ht => by rwa [herr]) fun L hL => ?_
    obtain ⟨-, -, hlen⟩ := chien_locations hL
    rw [hL]
    refine ⟨_, rfl, State.complete_completed (.refl s), ?_, fun k => ⟨?_, ?_⟩, rfl, rfl, .refl s, .refl s⟩
    · exact Nat.mod_eq_of_lt (Nat.lt_succ_of_le hlen)
    · exact rsArray_getElem L k
    · exact rsArray_getElem [] k
  case forney =>
    obtain ⟨hL, h0, -⟩ := hs
    obtain ⟨M, hM, hlenM⟩ := forney_answers (s.getPR a) hL h0
    have hlen : M.length = s.errCnt.toNat := hlenM.trans (take_toList_length ..)
    refine State.answers_ok hM ⟨_, rfl, M, hM, State.complete_completed (.refl s), rfl, rfl, fun k => ?_, ?_, rfl,
      .refl s, .refl s⟩
    · refine (rsArray_getElem _ k).trans ?_
      split
      · exact getD_append_of_lt (by omega)
      · rw [getD_append_of_le (by omega), List.getD_eq_getElem?_getD, List.getElem?_drop,
          Nat.add_sub_cancel' (by omega)]
        simp
    · simp [Word.ofByte]

/-- Settles O40: the checks in order, then the corrections at positions that are distinct since the locations are. -/
theorem rsApplyCommand : Obligations.RsApplyCommand := by
  intro s hs
  obtain ⟨hL, h0, -⟩ := hs
  refine State.answers_blockLength (State.answers_cwbufRange (State.answers_positions h0 fun hin => ?_))
  have hlen : s.locations.length = s.errCnt.toNat := take_toList_length ..
  have hM : s.magnitudes.length = s.locations.length := (take_toList_length ..).trans hlen.symm
  refine ⟨_, rfl, State.complete_completed ?_, fun k hk => ?_, s.cwCorrect_positions_sameMemExcept _ _ _ _,
    ?_, ?_, ?_, ?_⟩
  · simp [SameShell]
  · have hread := s.readByte_cwCorrect_positions s.curArg0.toNat hM hL h0 hin (hlen ▸ hk)
    rwa [State.locations, State.magnitudes, take_toList_getD _ hk, take_toList_getD _ hk] at hread
  · simp [Word.ofByte]
  · simp
  · simp [SameRs]
  · simp [SamePR]

/-- Settles O41: the checks in order, then the stages, of which Forney's meets distinct nonzero locations, and the
corrections. -/
theorem rsDecodeCommand : Obligations.RsDecodeCommand := by
  intro s
  refine State.answers_blockLength (State.answers_ecCount (State.answers_cwbufRange ?_))
  refine State.answers_ite (syndrome_eq_zero_iff _ _) ?clean ?corrupt
  case clean =>
    refine ⟨_, rfl, State.complete_completed (.refl s), rfl, fun k => ⟨?_, ?_⟩, rfl, rfl, .refl s, .refl s⟩
    · exact rsArray_getElem [] k
    · exact rsArray_getElem [] k
  case corrupt =>
    simp only [syndrome, State.cwRead, cwbufAddr]
    refine State.answers_stage (fun err herr t ht => by rwa [herr]) fun ⟨sigma, omega⟩ hso => ?_
    simp only [hso]
    refine State.answers_stage (fun err herr t ht => by rwa [herr]) fun L hchien => ?_
    obtain ⟨hL, h0, hlen⟩ := chien_locations hchien
    obtain ⟨M, hM, hlenM⟩ := forney_answers omega hL h0
    simp only [hchien]
    refine State.answers_ok hM (State.answers_positions h0 fun hin => ?_)
    refine ⟨_, rfl, M, hM, State.complete_completed ?_, fun k => ?_, s.cwCorrect_positions_sameMemExcept _ _ _ _, ?_,
      fun k => ⟨?_, ?_⟩, rfl, rfl, ?_⟩
    · simp [SameShell]
    · exact s.readByte_cwCorrect_positions _ hlenM hL h0 hin
    · exact Nat.mod_eq_of_lt (Nat.lt_succ_of_le hlen)
    · exact rsArray_getElem L k
    · exact rsArray_getElem M k
    · simp [SamePR]

end Sys2Proof.Machine
end

section
/-! SUPPORT. The segment decoder without its data modes: fields of the bit stream whose bits stand in the input, the ECI
designator in a window and in the stream, the terminator (43_segment.md R227, R242, R251). -/

namespace Sys2Proof.Machine

/-! ### The bits of a number -/

@[simp] theorem bitsOf_length (w v : Nat) : (bitsOf w v).length = w := by
  induction w with
  | zero => rfl
  | succ w ih => simp [bitsOf, ih]

/-- The digits of a number are those of its upper part, then those of its lower part. -/
theorem bitsOf_add (m n v : Nat) : bitsOf (m + n) v = bitsOf m (v / 2 ^ n) ++ bitsOf n v := by
  induction m with
  | zero => simp [bitsOf]
  | succ m ih => rw [Nat.add_right_comm, bitsOf, ih, bitsOf, Nat.testBit_div_two_pow, List.cons_append]

/-! ### Fields whose bits stand in the input -/

theorem State.holds_append {s : State} {pos : Nat} {xs ys : List Bool} :
    s.Holds pos (xs ++ ys) ↔ s.Holds pos xs ∧ s.Holds (pos + xs.length) ys := by
  simp only [State.Holds, List.length_append]
  constructor
  · rintro ⟨hend, hbits⟩
    refine ⟨⟨by omega, fun j hj => ?_⟩, by omega, fun j hj => ?_⟩
    · rw [hbits j (by omega), List.getElem_append_left hj]
    · rw [Nat.add_assoc, hbits (xs.length + j) (by omega)]
      simp
  · rintro ⟨⟨-, hx⟩, hend, hy⟩
    refine ⟨by omega, fun j hj => ?_⟩
    rw [List.getElem_append]
    split
    · exact hx j ‹_›
    · rw [← hy (j - xs.length) (by omega)]
      congr 1
      omega

theorem State.streamField_of_holds {s : State} {pos w v : Nat} (h : s.Holds pos (bitsOf w v)) :
    s.streamField pos w = v % 2 ^ w := by
  induction w generalizing v with
  | zero => simp [State.streamField, Nat.mod_one]
  | succ w ih =>
    rw [bitsOf_add, State.holds_append, bitsOf_length, Nat.pow_one] at h
    obtain ⟨hhigh, -, hlast⟩ := h
    have hbit : s.streamBit (pos + w) = v.testBit 0 := hlast 0 (by simp)
    have hmod : v % 2 ^ (w + 1) = v % 2 + 2 * (v / 2 % 2 ^ w) := by rw [Nat.pow_succ', Nat.mod_mul]
    rw [State.streamField, ih hhigh, hbit, hmod, Nat.toNat_testBit, Nat.pow_zero, Nat.div_one, Nat.add_comm]

/-- R223: a field whose bits stand in the input is read as their number. -/
theorem State.readField_of_holds {s : State} {pos w v : Nat} (h : s.Holds pos (bitsOf w v)) :
    s.readField pos w = .ok (v % 2 ^ w) := by
  have hend : pos + w ≤ 8 * s.curArg1.toNat := by simpa using h.1
  rw [State.readField_eq, if_neg (by simp only [State.avail]; omega), State.streamField_of_holds h]

/-! ### ECI designators -/

/-- The lead byte's leading ones tell how many bytes follow; its other bits begin the value (R242). -/
theorem eciLeadByte_eq {f : Nat} (h : f < 256) :
    eciLeadByte f =
      if f < 128 then .ok (f, 0) else if f < 192 then .ok (f - 128, 1) else if f < 224 then .ok (f - 192, 2)
      else .error .eciLead := by
  have h80 : f &&& 0x80 = 0x00 ↔ f < 128 := by revert f; decide +kernel
  have hC0 : ¬ f < 128 → (f &&& 0xC0 = 0x80 ↔ f < 192) := by revert f; decide +kernel
  have hE0 : ¬ f < 192 → (f &&& 0xE0 = 0xC0 ↔ f < 224) := by revert f; decide +kernel
  have h7F : f &&& 0x7F = f % 128 := Nat.and_two_pow_sub_one_eq_mod f 7
  have h3F : f &&& 0x3F = f % 64 := Nat.and_two_pow_sub_one_eq_mod f 6
  have h1F : f &&& 0x1F = f % 32 := Nat.and_two_pow_sub_one_eq_mod f 5
  unfold eciLeadByte
  by_cases hone : f < 128
  · rw [if_pos (h80.2 hone), if_pos hone, h7F, Nat.mod_eq_of_lt hone]
  rw [if_neg (mt h80.1 hone), if_neg hone]
  by_cases htwo : f < 192
  · rw [if_pos ((hC0 hone).2 htwo), if_pos htwo, h3F, show f % 64 = f - 128 by omega]
  rw [if_neg (mt (hC0 hone).1 htwo), if_neg htwo]
  by_cases hthree : f < 224
  · rw [if_pos ((hE0 htwo).2 hthree), if_pos hthree, h1F, show f % 32 = f - 192 by omega]
  · rw [if_neg (mt (hE0 htwo).1 hthree), if_neg hthree]

theorem eciLeadByte_count_le {f hi k : Nat} (hf : f < 256) (h : eciLeadByte f = .ok (hi, k)) : k ≤ 2 := by
  have hmap : (eciLeadByte f).map Prod.snd = .ok k := by rw [h]; rfl
  rw [eciLeadByte_eq hf] at hmap
  split at hmap
  · cases hmap; exact Nat.zero_le 2
  split at hmap
  · cases hmap; exact Nat.le_succ 1
  split at hmap
  · cases hmap; exact Nat.le_refl 2
  · cases hmap

/-- The designator at the top of a 24-bit window as SEG.ECI parses it: its value, and how many bytes follow its
lead byte (R251). -/
def eciWindow (w : Nat) : Except Err (Nat × Nat) := do
  let (hi, k) ← eciLeadByte (w / 2 ^ 16)
  return (hi <<< (8 * k) ||| w % 2 ^ 16 / 2 ^ (16 - 8 * k), k)

/-- Putting the following bytes below the lead byte's bits adds them (R242). -/
theorem shiftLeft_or_of_lt {lo : Nat} (hi n p : Nat) (hp : 2 ^ n = p) (h : lo < p) :
    hi <<< n ||| lo = hi * p + lo := by
  subst hp
  rw [← Nat.shiftLeft_add_eq_or_of_lt h, Nat.shiftLeft_eq]

theorem eciWindow_eq {w : Nat} (hw : w ≤ 0xFFFFFF) :
    eciWindow w =
      if w / 65536 < 128 then .ok (w / 65536, 0)
      else if w / 65536 < 192 then .ok ((w / 65536 - 128) * 256 + w / 256 % 256, 1)
      else if w / 65536 < 224 then .ok ((w / 65536 - 192) * 65536 + w % 65536, 2)
      else .error .eciLead := by
  rw [eciWindow, show 2 ^ 16 = 65536 from rfl, eciLeadByte_eq (by omega)]
  split
  · change Except.ok (_ <<< 0 ||| w % 65536 / 65536, 0) = _
    rw [shiftLeft_or_of_lt _ 0 1 rfl (by omega), Nat.mul_one, Nat.mod_div_self, Nat.add_zero]
  split
  · change Except.ok (_ <<< 8 ||| w % 65536 / 256, 1) = _
    rw [shiftLeft_or_of_lt _ 8 256 rfl (by omega), show w % 65536 / 256 = w / 256 % 256 by omega]
  split
  · change Except.ok (_ <<< 16 ||| w % 65536 / 1, 2) = _
    rw [shiftLeft_or_of_lt _ 16 65536 rfl (by omega), Nat.div_one]
  · rfl

theorem execSegEci_eq (s : State) :
    execSegEci s = s.settle (atMost 0xFFFFFF s.curArg0 >>= fun w =>
      eciWindow w >>= fun r => .ok ((s.setRes0 r.1).setRes1 (r.2 + 1))) := by
  refine congrArg s.settle (bind_congr fun w => ?_)
  unfold eciWindow
  cases eciLeadByte (w / 2 ^ 16) with
  | error e => rfl
  | ok r => rfl

/-- On the 24 bits of a window the bitstream parse of R242 is the window's, its cursor past the bytes it used. -/
theorem State.eciDesignator_of_holds {s : State} {pos w : Nat} (hw : w ≤ 0xFFFFFF) (h : s.Holds pos (bitsOf 24 w)) :
    s.eciDesignator pos = eciWindow w >>= fun r => .ok (r.1, pos + 8 + 8 * r.2) := by
  rw [bitsOf_add 8 16, State.holds_append, bitsOf_length] at h
  obtain ⟨hlead, hrest⟩ := h
  have hf : w / 2 ^ 16 < 256 := by omega
  have hmod : w / 2 ^ 16 % 2 ^ 8 = w / 2 ^ 16 := Nat.mod_eq_of_lt hf
  rw [State.eciDesignator, State.readField_of_holds hlead, hmod, eciWindow]
  change eciLeadByte (w / 2 ^ 16) >>= _ = _
  cases hk : eciLeadByte (w / 2 ^ 16) with
  | error e => rfl
  | ok r =>
    obtain ⟨hi, k⟩ := r
    have hk2 : k ≤ 2 := eciLeadByte_count_le hf hk
    rw [show 16 = 8 * k + (16 - 8 * k) by omega, bitsOf_add, State.holds_append] at hrest
    have hread := State.readField_of_holds hrest.1
    have hlow : w / 2 ^ (16 - 8 * k) % 2 ^ (8 * k) = w % 2 ^ 16 / 2 ^ (16 - 8 * k) := by
      rw [← Nat.mod_mul_right_div_self, ← Nat.pow_add, Nat.sub_add_cancel (by omega)]
    change (if k = 0 then _ else s.readField (pos + 8) (8 * k) >>= _) = _
    by_cases hk0 : k = 0
    · subst hk0
      change Except.ok (hi, pos + 8) = Except.ok (hi <<< 0 ||| w % 2 ^ 16 / 2 ^ 16, pos + 8)
      simp [Nat.mod_div_self]
    · rw [if_neg hk0, hread, hlow]
      rfl

/-! ### Commands that end with both results -/

theorem State.complete_completedResults (s : State) (m n : Nat) :
    CompletedResults s ((s.setRes0 m).setRes1 n).complete (BitVec.ofNat 32 m) (BitVec.ofNat 32 n) :=
  ⟨State.complete_completed (.refl s), rfl, rfl, .refl s, .refl s, .refl s⟩

/-- Settles O44: the window's designator decides SEG.ECI's results and the bitstream parse alike. -/
theorem segEciCommand : Obligations.SegEciCommand := by
  intro s
  refine ⟨?_, fun pos w hw h => ?_⟩
  · change Answers (execSegEci s) _
    rw [execSegEci_eq]
    refine State.answers_check atMost_of_lt (fun h => atMost_of_le (Nat.not_lt.1 h)) fun h => ?_
    rw [eciWindow_eq (Nat.not_lt.1 h)]
    split
    · exact ⟨_, rfl, s.complete_completedResults _ _⟩
    split
    · exact ⟨_, rfl, s.complete_completedResults _ _⟩
    split
    · exact ⟨_, rfl, s.complete_completedResults _ _⟩
    · exact ⟨_, rfl, s.raise_failedClean _⟩
  · rw [State.eciDesignator_of_holds hw h, eciWindow_eq hw]
    dsimp only
    split
    · rfl
    split
    · rfl
    split
    · rfl
    · rfl

/-- Settles O51: with no segment the error of R245, otherwise the two counts. -/
theorem terminatorEndsTheDecode : Obligations.TerminatorEndsTheDecode := by
  intro s
  change Answers (execModeTerminator s) _
  unfold execModeTerminator
  split
  · exact ⟨_, rfl, s.segFail_failed .noSegment⟩
  · exact ⟨_, rfl, s.complete_completedResults _ _⟩

end Sys2Proof.Machine
end

section
/-! SUPPORT. The control commands: what NOP leaves and what CLR clears (44_control.md). -/

namespace Sys2Proof.Machine

theorem State.getPR_of_pr_zero {s : State} (h : s.pr = Vector.replicate 8 [0#8]) (i : PReg) : s.getPR i = [0#8] := by
  simp [State.getPR, h]

/-- A command that succeeds without an update completes with the results it found (R271, R291). -/
theorem State.complete_keepsResults (s : State) : CompletedResults s s.complete s.res0 s.res1 :=
  ⟨State.complete_completed (.refl s), rfl, rfl, .refl s, .refl s, .refl s⟩

/-- Settles O20: NOP completes the state it found; CLR's update fills the registers and RS arrays with zeros and names
neither the memories nor the shell. -/
theorem nopAndClrCommands : Obligations.NopAndClrCommands := by
  intro s
  refine ⟨⟨s.complete, rfl, s.complete_keepsResults⟩, ⟨_, rfl, ?completed, ?registers, rfl, ?errors, rfl, rfl, ?memory⟩⟩
  case completed => exact State.complete_completed (.refl s)
  case registers => exact State.getPR_of_pr_zero rfl
  case errors => exact fun k => ⟨Vector.getElem_replicate k.isLt, Vector.getElem_replicate k.isLt⟩
  case memory => exact .of_mem rfl rfl

end Sys2Proof.Machine
end

section
/-! SUPPORT. The encoder and the decoder of command words: a word is its opcode and four fields once its reserved bits are 0,
and masking a word to the bits an instruction uses keeps the fields the instruction reads (30_encoding.md R91 to R97). -/

namespace Sys2Proof

open Machine (Err)

/-! ### Reserved bits -/

/-- The positions of the reserved bits (R96). -/
def reservedBits : List Nat := [11, 15, 19, 23, 24, 25, 26, 27, 28, 29, 30, 31]

theorem and_reservedMask_eq_zero_iff (w : Word) :
    w &&& reservedMask = 0#32 ↔ ∀ i ∈ reservedBits, w.getLsbD i = false := by
  have hset : ∀ i ∈ reservedBits, reservedMask.getLsbD i = true := by decide
  have hclear : ∀ i < 32, i ∉ reservedBits → reservedMask.getLsbD i = false := by decide
  constructor
  · intro h i hi
    have hbit := congrArg (BitVec.getLsbD · i) h
    simpa [hset i hi] using hbit
  · intro h
    refine BitVec.eq_of_getLsbD_eq fun i hi => ?_
    by_cases hr : i ∈ reservedBits
    · simp [h i hr]
    · simp [hclear i hi hr]

/-- With its reserved bits 0 a word is the sum of its opcode and its fields. -/
theorem toNat_of_reserved {w : Word} (h : w &&& reservedMask = 0#32) :
    w.toNat = w.toNat % 256 + (fieldD w).val * 2 ^ 8 + (fieldA w).val * 2 ^ 12 + (fieldB w).val * 2 ^ 16
      + (fieldE w).val * 2 ^ 20 := by
  rw [and_reservedMask_eq_zero_iff] at h
  simp only [reservedBits, List.forall_mem_cons, List.not_mem_nil, false_imp_iff, implies_true, and_true,
    BitVec.getLsbD, Nat.testBit_eq_decide_div_mod_eq, decide_eq_false_iff_not] at h
  have hw : w.toNat < 2 ^ 32 := w.isLt
  simp only [fieldD, fieldA, fieldB, fieldE, regField]
  omega

theorem eq_commandWord_of_reserved {w : Word} (h : w &&& reservedMask = 0#32) :
    w = commandWord (w.toNat % 256) (fieldD w) (fieldA w) (fieldB w) (fieldE w) := by
  rw [commandWord, ← toNat_of_reserved h, BitVec.ofNat_toNat, BitVec.setWidth_eq]

/-! ### Words built from an opcode and fields -/

section
variable {op : Nat} (hop : op < 256) (d a b e : PReg)
include hop

theorem commandWord_toNat : (commandWord op d a b e).toNat
    = op + d.val * 2 ^ 8 + a.val * 2 ^ 12 + b.val * 2 ^ 16 + e.val * 2 ^ 20 := by
  rw [commandWord, BitVec.toNat_ofNat]
  omega

theorem commandWord_opcode : (commandWord op d a b e).toNat % 256 = op := by
  rw [commandWord_toNat hop]; omega

theorem fieldD_commandWord : fieldD (commandWord op d a b e) = d := by
  apply Fin.ext; simp only [fieldD, regField, commandWord_toNat hop]; omega

theorem fieldA_commandWord : fieldA (commandWord op d a b e) = a := by
  apply Fin.ext; simp only [fieldA, regField, commandWord_toNat hop]; omega

theorem fieldB_commandWord : fieldB (commandWord op d a b e) = b := by
  apply Fin.ext; simp only [fieldB, regField, commandWord_toNat hop]; omega

theorem fieldE_commandWord : fieldE (commandWord op d a b e) = e := by
  apply Fin.ext; simp only [fieldE, regField, commandWord_toNat hop]; omega

theorem commandWord_reserved : commandWord op d a b e &&& reservedMask = 0#32 := by
  rw [and_reservedMask_eq_zero_iff]
  simp only [reservedBits, List.forall_mem_cons, List.not_mem_nil, false_imp_iff, implies_true, and_true,
    BitVec.getLsbD, Nat.testBit_eq_decide_div_mod_eq, decide_eq_false_iff_not, commandWord_toNat hop]
  omega

end

/-- A word with no reserved bit set decodes to what the opcode map reads in it (R93, R96). -/
theorem decode_of_reserved {w : Word} {i : Instr} (hi : decodeOp (w.toNat % 256) w = some i)
    (hr : w &&& reservedMask = 0#32) : decode w = .ok i := by
  simp only [decode, hi, hr, if_true]

/-- A word of the encoder decodes to what the opcode map reads in its fields. -/
theorem decode_commandWord {op : Nat} (hop : op < 256) {d a b e : PReg} {i : Instr}
    (hi : decodeOp op (commandWord op d a b e) = some i) : (Code.command (commandWord op d a b e)).decode = .ok i := by
  refine decode_of_reserved ?_ (commandWord_reserved hop d a b e)
  rwa [commandWord_opcode hop]

/-- Settles O1: a command's word reads back the opcode and every field the encoder put in it. -/
theorem everyInstructionDecodesFromItsEncoding : Obligations.EveryInstructionDecodesFromItsEncoding := by
  intro i
  cases i with
  | modeTerminator | modeNumeric | modeAlphanumeric | modeByte | modeEci | modeKanji => rfl
  | _ =>
    refine decode_commandWord ?_ ?_
    · decide
    · simp [decodeOp, fieldD_commandWord, fieldA_commandWord, fieldB_commandWord, fieldE_commandWord]

/-! ### Masks -/

/-- A mask that covers a field keeps it. -/
theorem regField_and {m : Word} {lo : Nat} (h : m.toNat / 2 ^ lo % 2 ^ 3 = 2 ^ 3 - 1) (w : Word) :
    regField (w &&& m) lo = regField w lo := by
  apply Fin.ext
  change (w &&& m).toNat / 2 ^ lo % 2 ^ 3 = w.toNat / 2 ^ lo % 2 ^ 3
  rw [BitVec.toNat_and, Nat.and_div_two_pow, Nat.and_mod_two_pow, h, Nat.and_two_pow_sub_one_eq_mod, Nat.mod_mod]

/-- A mask that leaves a field out clears it. -/
theorem regField_and_of_zero {m : Word} {lo : Nat} (h : m.toNat / 2 ^ lo % 2 ^ 3 = 0) (w : Word) :
    regField (w &&& m) lo = 0 := by
  apply Fin.ext
  change (w &&& m).toNat / 2 ^ lo % 2 ^ 3 = 0
  rw [BitVec.toNat_and, Nat.and_div_two_pow, Nat.and_mod_two_pow, h, Nat.and_zero]

/-- The seven masks of the opcode table. -/
def fieldMasks : List Word :=
  [0xFF888FFF#32, 0xFF88F8FF#32, 0xFF88FFFF#32, 0xFF8FFFFF#32, 0xFFF8FFFF#32, 0xFFFFFFFF#32, 0xFF8888FF#32]

theorem usedBits_mem_fieldMasks (i : Instr) : usedBits i ∈ fieldMasks := by
  cases i <;> simp [usedBits, fieldMasks]

theorem opcode_and_usedBits (w : Word) (i : Instr) : (w &&& usedBits i).toNat % 256 = w.toNat % 256 := by
  have hmasks : ∀ m ∈ fieldMasks, m.toNat % 2 ^ 8 = 2 ^ 8 - 1 := by simp [fieldMasks]
  change _ % 2 ^ 8 = _
  rw [BitVec.toNat_and, Nat.and_mod_two_pow, hmasks _ (usedBits_mem_fieldMasks i), Nat.and_two_pow_sub_one_eq_mod,
    Nat.mod_mod]

theorem usedBits_and_reservedMask (w : Word) (i : Instr) :
    w &&& usedBits i &&& reservedMask = w &&& reservedMask := by
  have hmasks : ∀ m ∈ fieldMasks, m &&& reservedMask = reservedMask := by simp [fieldMasks, reservedMask]
  rw [BitVec.and_assoc, hmasks _ (usedBits_mem_fieldMasks i)]

/-- What the opcode map answers, it reads in the bits the instruction uses alone (R92). -/
theorem decodeOp_congr {op : Nat} {w w' : Word} {i : Instr} (h : decodeOp op w = some i)
    (hw : w' &&& usedBits i = w &&& usedBits i) : decodeOp op w' = some i := by
  have hfield : ∀ lo, (usedBits i).toNat / 2 ^ lo % 2 ^ 3 = 2 ^ 3 - 1 → regField w' lo = regField w lo := fun lo hlo => by
    rw [← regField_and hlo w', hw, regField_and hlo w]
  unfold decodeOp at h
  split at h <;> cases h <;> simp [decodeOp, fieldD, fieldA, fieldB, fieldE, hfield, usedBits]

/-- The encoder puts back the fields the opcode map reads, and leaves the others 0 (R97). -/
theorem encode_of_decodeOp {op : Nat} {w : Word} {i : Instr} (h : decodeOp op w = some i) :
    let u := w &&& usedBits i
    encode i = .command (commandWord op (fieldD u) (fieldA u) (fieldB u) (fieldE u)) := by
  unfold decodeOp at h
  split at h <;> cases h <;>
    simp [encode, usedBits, fieldD, fieldA, fieldB, fieldE, regField_and, regField_and_of_zero]

theorem decode_eq_ok_iff {w : Word} {i : Instr} :
    decode w = .ok i ↔ decodeOp (w.toNat % 256) w = some i ∧ w &&& reservedMask = 0#32 := by
  refine ⟨fun h => ?_, fun ⟨hi, hr⟩ => decode_of_reserved hi hr⟩
  unfold decode at h
  split at h
  · cases h
  · split at h
    · cases h; exact ⟨‹_›, ‹_›⟩
    · cases h

/-- Settles O2: a decoded word has no reserved bit set, so that its used bits are its opcode and the fields that are read. -/
theorem decoderReadsExactlyTheUsedBits : Obligations.DecoderReadsExactlyTheUsedBits := by
  intro w i h
  obtain ⟨hi, hr⟩ := decode_eq_ok_iff.1 h
  refine ⟨?_, fun w' hw => decode_eq_ok_iff.2 ⟨?_, ?_⟩⟩
  · have hu := eq_commandWord_of_reserved ((usedBits_and_reservedMask w i).trans hr)
    rw [encode_of_decodeOp hi, ← opcode_and_usedBits w i, ← hu]
  · rw [← opcode_and_usedBits w' i, hw, opcode_and_usedBits]
    exact decodeOp_congr hi hw
  · rw [← usedBits_and_reservedMask w' i, hw, usedBits_and_reservedMask, hr]

/-- The ten mode indicators with no meaning (R99). -/
theorem decodeMode_undefined (m : BitVec 4) (h : m.toNat ∈ [3, 5, 6, 9, 10, 11, 12, 13, 14, 15]) :
    decodeMode m = .error .badMode := by
  simp only [List.mem_cons, List.not_mem_nil, or_false] at h
  unfold decodeMode
  split
  · omega
  · omega
  · omega
  · omega
  · omega
  · omega
  · rfl

/-- Settles O4: the decoders run on the words and indicators written out. -/
theorem writtenOutCodesDecode : Obligations.WrittenOutCodesDecode :=
  ⟨rfl, rfl, rfl, rfl, rfl, rfl, rfl, rfl, rfl, rfl, rfl, rfl, rfl, decodeMode_undefined⟩

end Sys2Proof
end

section
/-! SUPPORT. What an instruction may write: stores into a region of memory, how many bytes the characters of a data segment
give, and for every instruction the registers, results and bytes it can reach (10_state.md R25 to R37, 43_segment.md R247). -/

namespace Sys2Proof.Machine

/-! ### Stores into a region -/

/-- The memory list `m'` comes from `m` by stores at addresses in `R`. -/
inductive Stores (R : Nat → Prop) (m : List Host.Cell) : List Host.Cell → Prop
  | refl : Stores R m m
  | store {m' : List Host.Cell} {a : Nat} (v : Byte) (ha : R a) (h : Stores R m m') : Stores R m (Memory.store m' a v)

namespace Stores
variable {R : Nat → Prop} {m m' : List Host.Cell}

theorem wf (h : Stores R m m') (hm : Memory.wf m) : Memory.wf m' := by
  induction h with
  | refl => exact hm
  | store v _ _ ih => exact Memory.store_wf _ v ih

theorem mem (h : Stores R m m') {c : Host.Cell} (hc : c ∈ m') : R c.1 ∨ c ∈ m := by
  induction h with
  | refl => exact .inr hc
  | store v ha _ ih =>
    obtain rfl | hc := Memory.mem_store hc
    · exact .inl ha
    · exact ih hc

theorem lookup (h : Stores R m m') {a : Nat} (ha : ¬ R a) : Memory.lookup m' a = Memory.lookup m a := by
  induction h with
  | refl => rfl
  | store v hb _ ih => rw [Memory.lookup_store, if_neg fun e : a = _ => ha (e ▸ hb), ih]

theorem mono {R' : Nat → Prop} (hR : ∀ a, R a → R' a) (h : Stores R m m') : Stores R' m m' := by
  induction h with
  | refl => exact .refl
  | store v ha _ ih => exact .store v (hR _ ha) ih

end Stores

theorem Stores.writeBytes {R : Nat → Prop} {m : List Host.Cell} {s : State} (h : Stores R m s.mem) {a : Nat}
    {vs : List Byte} (hR : ∀ x, a ≤ x → x < a + vs.length → R x) : Stores R m (s.writeBytes a vs).mem := by
  induction vs generalizing s a with
  | nil => exact h
  | cons v vs ih =>
    refine ih (.store v (hR a (Nat.le_refl a) (by simp)) h) fun x hx hlt => hR x (by omega) ?_
    simp only [List.length_cons]; omega

theorem Stores.cwCorrect {R : Nat → Prop} {m : List Host.Cell} {s : State} (h : Stores R m s.mem) {a : Nat}
    {cs : List (Nat × Byte)} (hR : ∀ c ∈ cs, R (cwbufAddr (a + c.1))) : Stores R m (s.cwCorrect a cs).mem := by
  induction cs generalizing s with
  | nil => exact h
  | cons c cs ih =>
    exact ih (.store _ (hR c List.mem_cons_self) h) fun d hd => hR d (List.mem_cons_of_mem c hd)

/-- A byte outside the region reads as before. -/
theorem Stores.sameMemExcept {R : Nat → Prop} {s t : State} (h : Stores R s.mem t.mem) (he : t.epoch = s.epoch) :
    SameMemExcept s t R := fun a ha => by simp only [State.readByte, h.lookup ha, he]

/-! ### How far the characters of a data segment reach -/

/-- The characters read from `pos` on end at a cursor inside the input, and give at most three bytes for ten bits (R247). -/
def Chars.Fits (s : State) (pos : Nat) (c : Chars) : Prop :=
  ∃ q, pos ≤ q ∧ q ≤ 8 * s.curArg1.toNat ∧ 10 * c.out.length + 3 * pos ≤ 3 * q ∧ ∀ p, c.last = .ok p → p = q

/-- R223: a field that can be read lies inside the input. -/
theorem State.readField_eq_ok {s : State} {pos w v : Nat} (hw : 0 < w) (h : s.readField pos w = .ok v) :
    pos + w ≤ 8 * s.curArg1.toNat ∧ v = s.streamField pos w := by
  rw [State.readField_eq] at h
  split at h
  · cases h
  · cases h
    rename_i havail
    simp only [State.avail] at havail
    exact ⟨by omega, rfl⟩

section
variable {s : State} {pos : Nat}

theorem Chars.fits_done (h : pos ≤ 8 * s.curArg1.toNat) : Chars.Fits s pos (.done pos) :=
  ⟨pos, Nat.le_refl _, h, by simp [Chars.done], fun p hp => by cases hp; rfl⟩

/-- A group of `w` bits that gives at most three bytes for ten bits, then the rest. -/
theorem Chars.fits_after {w : Nat} {group : Except Err (List Byte)} {rest : Chars} (h : pos ≤ 8 * s.curArg1.toNat)
    (hgroup : ∀ bs, group = .ok bs → pos + w ≤ 8 * s.curArg1.toNat ∧ 10 * bs.length ≤ 3 * w)
    (hrest : pos + w ≤ 8 * s.curArg1.toNat → Chars.Fits s (pos + w) rest) : Chars.Fits s pos (.after group rest) := by
  cases group with
  | error e => exact ⟨pos, Nat.le_refl _, h, by simp [Chars.after], fun p hp => by cases hp⟩
  | ok bs =>
    obtain ⟨hend, hlen⟩ := hgroup bs rfl
    obtain ⟨q, hpos, hq, hout, hlast⟩ := hrest hend
    refine ⟨q, by omega, hq, ?_, hlast⟩
    simp only [Chars.after_ok, List.length_append]
    omega

theorem digits_length (k g : Nat) : (digits k g).length = k := by
  induction k with
  | zero => rfl
  | succ k ih => simp [digits, ih]

theorem State.numericGroup_fits {w k : Nat} (hw : 0 < w) (hk : 10 * k ≤ 3 * w) {bs : List Byte}
    (h : s.numericGroup pos w k = .ok bs) : pos + w ≤ 8 * s.curArg1.toNat ∧ 10 * bs.length ≤ 3 * w := by
  obtain ⟨g, hg, h⟩ := except_bind_eq_ok.1 h
  obtain ⟨-, rfl⟩ := check_eq_ok.1 h
  exact ⟨(State.readField_eq_ok hw hg).1, by rwa [digits_length]⟩

theorem State.alnumPair_fits {bs : List Byte} (h : s.alnumPair pos = .ok bs) :
    pos + 11 ≤ 8 * s.curArg1.toNat ∧ 10 * bs.length ≤ 3 * 11 := by
  obtain ⟨g, hg, h⟩ := except_bind_eq_ok.1 h
  obtain ⟨hi, -, h⟩ := except_bind_eq_ok.1 h
  obtain ⟨lo, -, h⟩ := except_bind_eq_ok.1 h
  cases h
  exact ⟨(State.readField_eq_ok (by decide) hg).1, by simp⟩

theorem State.alnumSingle_fits {bs : List Byte} (h : s.alnumSingle pos = .ok bs) :
    pos + 6 ≤ 8 * s.curArg1.toNat ∧ 10 * bs.length ≤ 3 * 6 := by
  obtain ⟨g, hg, h⟩ := except_bind_eq_ok.1 h
  obtain ⟨c, -, h⟩ := except_bind_eq_ok.1 h
  cases h
  exact ⟨(State.readField_eq_ok (by decide) hg).1, by simp⟩

theorem State.rawByte_fits {bs : List Byte} (h : s.rawByte pos = .ok bs) :
    pos + 8 ≤ 8 * s.curArg1.toNat ∧ 10 * bs.length ≤ 3 * 8 := by
  obtain ⟨g, hg, h⟩ := except_bind_eq_ok.1 h
  cases h
  exact ⟨(State.readField_eq_ok (by decide) hg).1, by simp⟩

theorem State.kanjiPair_fits {bs : List Byte} (h : s.kanjiPair pos = .ok bs) :
    pos + 13 ≤ 8 * s.curArg1.toNat ∧ 10 * bs.length ≤ 3 * 13 := by
  obtain ⟨g, hg, h⟩ := except_bind_eq_ok.1 h
  cases h
  exact ⟨(State.readField_eq_ok (by decide) hg).1, by simp⟩

theorem State.numericChars_fits (count : Nat) (h : pos ≤ 8 * s.curArg1.toNat) :
    Chars.Fits s pos (s.numericChars count pos) := by
  induction count, pos using State.numericChars.induct with
  | case1 p => exact Chars.fits_done h
  | case2 p => exact Chars.fits_after h (fun _ => State.numericGroup_fits (by decide) (by decide)) Chars.fits_done
  | case3 p => exact Chars.fits_after h (fun _ => State.numericGroup_fits (by decide) (by decide)) Chars.fits_done
  | case4 c p ih => exact Chars.fits_after h (fun _ => State.numericGroup_fits (by decide) (by decide)) ih

theorem State.alnumChars_fits (count : Nat) (h : pos ≤ 8 * s.curArg1.toNat) :
    Chars.Fits s pos (s.alnumChars count pos) := by
  induction count, pos using State.alnumChars.induct with
  | case1 p => exact Chars.fits_done h
  | case2 p => exact Chars.fits_after h (fun _ => State.alnumSingle_fits) Chars.fits_done
  | case3 c p ih => exact Chars.fits_after h (fun _ => State.alnumPair_fits) ih

theorem State.byteChars_fits (count : Nat) (h : pos ≤ 8 * s.curArg1.toNat) :
    Chars.Fits s pos (s.byteChars count pos) := by
  induction count generalizing pos with
  | zero => exact Chars.fits_done h
  | succ c ih => exact Chars.fits_after h (fun _ => State.rawByte_fits) ih

theorem State.kanjiChars_fits (count : Nat) (h : pos ≤ 8 * s.curArg1.toNat) :
    Chars.Fits s pos (s.kanjiChars count pos) := by
  induction count generalizing pos with
  | zero => exact Chars.fits_done h
  | succ c ih => exact Chars.fits_after h (fun _ => State.kanjiPair_fits) ih

theorem State.segChars_fits (m : SegMode) (count : Nat) (h : pos ≤ 8 * s.curArg1.toNat) :
    Chars.Fits s pos (s.segChars m count pos) := by
  cases m with
  | numeric => exact State.numericChars_fits count h
  | alphanumeric => exact State.alnumChars_fits count h
  | byte => exact State.byteChars_fits count h
  | kanji => exact State.kanjiChars_fits count h

end

/-- R233: a count field has at least eight bits. -/
theorem eight_le_ccb (m : SegMode) (v : Nat) : 8 ≤ ccb m v := by
  unfold ccb
  dsimp only
  split
  · cases m <;> decide
  split
  · cases m <;> decide
  · cases m <;> decide

end Sys2Proof.Machine
end

section
/-! SUPPORT. How every instruction runs, said once: it completes, raises an error, fails inside SEG.DECODE, starts or moves
on a SEG.DECODE (60_exceptions.md R291, 43_segment.md R226 to R247); and what it can write. -/

namespace Sys2Proof.Machine

/-! ### How an instruction runs -/

/-- The cases of an instruction run in `s`, the state it gives in each. -/
inductive Runs (i : Instr) (s : State) : State → Prop
  /-- completion without error -/
  | completes (u : State) : Runs i s u.complete
  /-- an error of a command -/
  | raises (e : Err) (hi : i.isMode = false) : Runs i s (s.raise e)
  /-- an error inside SEG.DECODE, after the output `out` -/
  | fails (e : Err) (out : List Byte) (hi : i.isMode = true)
      (hout : s.seg.pos ≤ 8 * s.curArg1.toNat → 10 * out.length + 3 * s.seg.pos ≤ 24 * s.curArg1.toNat) :
      Runs i s ((s.writeBytes (outbufAddr s.seg.nout) out).segFail e)
  /-- SEG.DECODE past its operand checks -/
  | starts (hi : i = .segDecode) (hv : 1 ≤ s.curArg2.toNat) (hv' : s.curArg2.toNat ≤ 40)
      (hrange : s.curArg0.toNat + s.curArg1.toNat ≤ 4096) :
      Runs i s { s with segActive := true, seg := SegRun.start }
  /-- a data segment decoded and recorded -/
  | records (m : SegMode) (count pos : Nat) (out : List Byte) (hi : i.isMode = true) (hlow : s.seg.pos + 12 ≤ pos)
      (hhigh : pos ≤ 8 * s.curArg1.toNat) (hout : 10 * out.length + 3 * s.seg.pos ≤ 3 * pos) :
      Runs i s ((s.writeBytes (outbufAddr s.seg.nout) out).segRecord m count pos out.length)
  /-- an ECI designator put in force -/
  | designates (v : BitVec 21) (pos : Nat) (hi : i.isMode = true) (hlow : s.seg.pos + 12 ≤ pos)
      (hhigh : pos ≤ 8 * s.curArg1.toNat) : Runs i s { s with seg := { s.seg with pos := pos, eci := some v } }

/-- A command other than SEG.DECODE settles a computation. -/
theorem exec_settles {i : Instr} (hi : i.isMode = false) (hne : i ≠ .segDecode) (s : State) :
    ∃ r, exec i s = s.settle r := by
  cases i with
  | segDecode => exact absurd rfl hne
  | modeTerminator | modeNumeric | modeAlphanumeric | modeByte | modeEci | modeKanji => cases hi
  | nop | clr | polyAdd | polyDeg | polyCoef => exact ⟨.ok _, rfl⟩
  | _ => exact ⟨_, rfl⟩

theorem execSegDecode_runs (s : State) : ∃ t, execSegDecode s = .next t ∧ Runs .segDecode s t := by
  unfold execSegDecode
  split
  · exact ⟨_, rfl, .raises _ rfl⟩
  · rename_i hok
    obtain ⟨v, hv, hrange⟩ := except_bind_eq_ok.1 hok
    obtain ⟨⟨hlow, hhigh⟩, -⟩ := check_eq_ok.1 hv
    obtain ⟨hrange, -⟩ := check_eq_ok.1 hrange
    exact ⟨_, rfl, .starts rfl hlow hhigh hrange⟩

/-- An error that comes before any output. -/
theorem Runs.fails_silently {i : Instr} {s : State} (e : Err) (hi : i.isMode = true) : Runs i s (s.segFail e) :=
  .fails e [] hi fun h => by simp only [List.length_nil]; omega

theorem execModeTerminator_runs (s : State) : ∃ t, execModeTerminator s = .next t ∧ Runs .modeTerminator s t := by
  unfold execModeTerminator
  split
  · exact ⟨_, rfl, .fails_silently _ rfl⟩
  · exact ⟨_, rfl, .completes _⟩

theorem State.dataSegment_runs {i : Instr} (hi : i.isMode = true) (s : State) (m : SegMode) :
    Runs i s (s.dataSegment m) := by
  obtain ⟨e, -, h⟩ | ⟨count, hcount, h⟩ := s.dataSegment_cases m
  · rw [h]; exact .fails_silently e hi
  · have hw := eight_le_ccb m s.curArg2.toNat
    obtain ⟨hend, -⟩ := State.readField_eq_ok (by omega) hcount
    obtain ⟨q, hpos, hq, hout, hlast⟩ := State.segChars_fits m count hend
    obtain ⟨e, -, h⟩ | ⟨pos, hp, h⟩ := h
    · rw [h]; exact .fails e _ hi fun _ => by omega
    · rw [h]
      obtain rfl := hlast pos hp
      exact .records m count _ _ hi (by omega) hq (by omega)

/-- A designator that can be read takes one byte at least, and ends inside the input (R242). -/
theorem State.eciDesignator_bounds {s : State} {p v q : Nat} (h : s.eciDesignator p = .ok (v, q)) :
    p + 8 ≤ q ∧ q ≤ 8 * s.curArg1.toNat := by
  obtain ⟨f, hf, h⟩ := except_bind_eq_ok.1 h
  obtain ⟨hend, -⟩ := State.readField_eq_ok (by decide) hf
  obtain ⟨⟨hi, k⟩, -, h⟩ := except_bind_eq_ok.1 h
  dsimp only at h
  split at h
  · cases h; exact ⟨Nat.le_refl _, hend⟩
  · obtain ⟨lo, hlo, h⟩ := except_bind_eq_ok.1 h
    obtain ⟨hend, -⟩ := State.readField_eq_ok (by omega) hlo
    cases h
    exact ⟨by omega, hend⟩

theorem execModeEci_runs (s : State) : ∃ t, execModeEci s = .next t ∧ Runs .modeEci s t := by
  unfold execModeEci
  split
  · exact ⟨_, rfl, .fails_silently _ rfl⟩
  · obtain ⟨hlow, hhigh⟩ := State.eciDesignator_bounds ‹_›
    exact ⟨_, rfl, .designates _ _ rfl (by omega) hhigh⟩

theorem State.settle_runs {i : Instr} (hi : i.isMode = false) (s : State) (r : Except Err State) :
    ∃ t, s.settle r = .next t ∧ Runs i s t := by
  cases r with
  | ok t => exact ⟨_, rfl, .completes t⟩
  | error e => exact ⟨_, rfl, .raises e hi⟩

/-- Every instruction answers a next state, by one of the cases of `Runs` (R9). -/
theorem exec_answers (i : Instr) (s : State) : ∃ t, exec i s = .next t ∧ Runs i s t := by
  cases hi : i.isMode with
  | false =>
    by_cases hne : i = .segDecode
    · subst hne; exact execSegDecode_runs s
    · obtain ⟨r, hr⟩ := exec_settles hi hne s
      rw [hr]
      exact s.settle_runs hi r
  | true =>
    cases i with
    | modeTerminator => exact execModeTerminator_runs s
    | modeNumeric | modeAlphanumeric | modeByte | modeKanji => exact ⟨_, rfl, s.dataSegment_runs rfl _⟩
    | modeEci => exact execModeEci_runs s
    | _ => cases hi

theorem exec_runs {i : Instr} {s t : State} (h : exec i s = .next t) : Runs i s t := by
  obtain ⟨u, hu, hruns⟩ := exec_answers i s
  rw [h] at hu
  cases hu
  exact hruns

/-! ### What an instruction can write -/

/-- `t` differs from `s` only where instruction `i` may write, its bytes in the region `R`. -/
structure Writes (i : Instr) (R : Nat → Prop) (s t : State) : Prop where
  shell : SameShell s t
  registers : SamePRExcept s t (prDestinations i)
  rs : writesRs i = false → SameRs s t
  mem : Stores R s.mem t.mem
  res0 : writesRes0 i = false → t.res0 = s.res0
  res1 : writesRes1 i = false → t.res1 = s.res1

namespace Writes
variable {i : Instr} {R : Nat → Prop} {s u : State}

theorem refl (i : Instr) (R : Nat → Prop) (s : State) : Writes i R s s :=
  ⟨.refl s, fun _ _ => rfl, fun _ => .refl s, .refl, fun _ => rfl, fun _ => rfl⟩

theorem setPR (h : Writes i R s u) {d : PReg} (hd : d ∈ prDestinations i) (p : Poly) : Writes i R s (u.setPR d p) :=
  ⟨h.shell, fun j hj => (u.getPR_setPR_ne p fun e : d = j => hj (e ▸ hd)).trans (h.registers j hj), h.rs, h.mem, h.res0,
    h.res1⟩

theorem setRes0 (h : Writes i R s u) (hi : writesRes0 i = true) (n : Nat) : Writes i R s (u.setRes0 n) :=
  ⟨h.shell, h.registers, h.rs, h.mem, fun hn => absurd (hi.symm.trans hn) (by decide), h.res1⟩

theorem setRes1 (h : Writes i R s u) (hi : writesRes1 i = true) (n : Nat) : Writes i R s (u.setRes1 n) :=
  ⟨h.shell, h.registers, h.rs, h.mem, h.res0, fun hn => absurd (hi.symm.trans hn) (by decide)⟩

theorem setRs (h : Writes i R s u) (hi : writesRs i = true) (cnt : Byte) (loc mag : Vector Byte 255) :
    Writes i R s { u with errCnt := cnt, errLoc := loc, errMag := mag } :=
  ⟨h.shell, h.registers, fun hn => absurd (hi.symm.trans hn) (by decide), h.mem, h.res0, h.res1⟩

theorem setSeg (h : Writes i R s u) (active : Bool) (run : SegRun) :
    Writes i R s { u with segActive := active, seg := run } :=
  ⟨h.shell, h.registers, h.rs, h.mem, h.res0, h.res1⟩

theorem writeBytes (h : Writes i R s u) {a : Nat} {vs : List Byte} (hR : ∀ x, a ≤ x → x < a + vs.length → R x) :
    Writes i R s (u.writeBytes a vs) := by
  refine ⟨?_, fun j hj => (State.getPR_congr (u.writeBytes_pr a vs) j).trans (h.registers j hj), fun hi => ?_,
    h.mem.writeBytes hR, ?_, ?_⟩
  · simpa [SameShell] using h.shell
  · simpa [SameRs] using h.rs hi
  · simpa using h.res0
  · simpa using h.res1

theorem cwCorrect (h : Writes i R s u) {a : Nat} {cs : List (Nat × Byte)} (hR : ∀ c ∈ cs, R (cwbufAddr (a + c.1))) :
    Writes i R s (u.cwCorrect a cs) := by
  refine ⟨?_, fun j hj => (State.getPR_congr (u.cwCorrect_pr a cs) j).trans (h.registers j hj), fun hi => ?_,
    h.mem.cwCorrect hR, ?_, ?_⟩
  · simpa [SameShell] using h.shell
  · simpa [SameRs] using h.rs hi
  · simpa using h.res0
  · simpa using h.res1

theorem complete (h : Writes i R s u) : Writes i R s u.complete :=
  ⟨h.shell, h.registers, h.rs, h.mem, h.res0, h.res1⟩

theorem raise (h : Writes i R s u) (e : Err) : Writes i R s (u.raise e) :=
  ⟨h.shell, h.registers, h.rs, h.mem, h.res0, h.res1⟩

theorem segFail (h : Writes i R s u) (h0 : writesRes0 i = true) (h1 : writesRes1 i = true) (e : Err) :
    Writes i R s (u.segFail e) := ((h.setRes0 h0 0).setRes1 h1 0).raise e

/-- A command writes what its results do: completion and error touch nothing but STATUS (R291). -/
theorem settle {r : Except Err State} {t : State} (h : s.settle r = .next t) (hr : Yields (Writes i R s) r) :
    Writes i R s t := by
  obtain ⟨u, hu, rfl⟩ | ⟨e, -, rfl⟩ := State.settle_cases h
  · exact (hr u hu).complete
  · exact (refl i R s).raise e

end Writes

/-! ### Where an instruction writes memory -/

/-- What a mode indicator at the cursor can reach: the OUTBUF bytes that the unread bits can give, and the next SEGTAB
entry (R224, R225, R246). -/
def segmentReach (s : State) (a : Nat) : Prop :=
  (0x04000 + s.seg.nout ≤ a ∧ 10 * (a - (0x04000 + s.seg.nout)) < 3 * s.avail s.seg.pos)
    ∨ (0x08000 + 16 * s.seg.nseg ≤ a ∧ a < 0x08000 + 16 * s.seg.nseg + 16)

/-- The region of an instruction: CWBUF or nothing for a command. -/
def writeRegion (i : Instr) (s : State) (a : Nat) : Prop := mayWrite i a ∧ (i.isMode = true → segmentReach s a)

theorem recordBytes_length (m : SegMode) (count : Nat) (eci : Option (BitVec 21)) (start length : Nat) :
    (recordBytes m count eci start length).length = 16 := rfl

theorem State.segRecord_eq (s : State) (m : SegMode) (count pos length : Nat) :
    s.segRecord m count pos length =
      { s.writeBytes (segtabAddr s.seg.nseg) (recordBytes m count s.seg.eci s.seg.nout length) with
        segActive := s.segActive
        seg := { s.seg with pos := pos, nout := s.seg.nout + length, nseg := s.seg.nseg + 1 } } := by
  simp [State.segRecord]

theorem State.dataSegment_writes {i : Instr} {s : State} {m : SegMode}
    (hregion : ∀ a, 0x04000 ≤ a → mayWrite i a) (h0 : writesRes0 i = true) (h1 : writesRes1 i = true) :
    Writes i (writeRegion i s) s (s.dataSegment m) := by
  have hstart := Writes.refl i (writeRegion i s) s
  obtain ⟨e, -, h⟩ | ⟨count, hcount, h⟩ := s.dataSegment_cases m
  · rw [h]; exact hstart.segFail h0 h1 e
  · have hw := eight_le_ccb m s.curArg2.toNat
    obtain ⟨hend, -⟩ := State.readField_eq_ok (by omega) hcount
    obtain ⟨q, hpos, hq, hlen, -⟩ := State.segChars_fits m count hend
    have hout := hstart.writeBytes (a := outbufAddr s.seg.nout)
      (vs := (s.segChars m count (s.seg.pos + 4 + ccb m s.curArg2.toNat)).out) fun a ha hlt => by
        simp only [outbufAddr] at ha hlt
        refine ⟨hregion a (by omega), fun _ => .inl ⟨ha, ?_⟩⟩
        simp only [State.avail]
        omega
    obtain ⟨e, -, h⟩ | ⟨pos, -, h⟩ := h
    · rw [h]; exact hout.segFail h0 h1 e
    · rw [h, State.segRecord_eq]
      refine (hout.writeBytes fun a ha hlt => ?_).setSeg _ _
      simp only [State.writeBytes_seg, segtabAddr, recordBytes_length] at ha hlt
      exact ⟨hregion a (by omega), fun _ => .inr ⟨ha, hlt⟩⟩

/-- The bytes of a range of CWBUF that passed its check lie in CWBUF (R61, R62). -/
theorem mayWrite_cwbuf {w : Word} {n off x : Nat} (h : cwbufRange w n = .ok off) (hx : x < n) :
    0x01000 ≤ cwbufAddr (off + x) ∧ cwbufAddr (off + x) ≤ 0x01FFF := by
  obtain ⟨hrange, rfl⟩ := check_eq_ok.1 h
  simp only [Config.cwbufSize] at hrange
  simp only [cwbufAddr]
  omega

/-- A position inside a block of `n` bytes is below `n` (R195). -/
theorem positions_lt {n : Nat} {L : List Byte} {ps : List Nat} (hn : 1 ≤ n) (h : positions n L = .ok ps) :
    ∀ p ∈ ps, p < n := by
  obtain ⟨logs, -, h⟩ := except_bind_eq_ok.1 h
  split at h
  · cases h
    intro p hp
    obtain ⟨l, -, rfl⟩ := List.mem_map.1 hp
    omega
  · cases h

theorem pos_of_blockLength {n : Nat} {w : Word} (h : blockLength w = .ok n) : 1 ≤ n := by
  obtain ⟨⟨hw, -⟩, rfl⟩ := check_eq_ok.1 h
  exact hw

/-- Corrections at positions of a block that lies in CWBUF stay in CWBUF (R195). -/
theorem Writes.cwCorrect_positions {i : Instr} {s u : State} {w v : Word} {n a : Nat} {L M : List Byte} {ps : List Nat}
    (h : Writes i (writeRegion i s) s u) (hi : i.isMode = false)
    (hregion : ∀ x, 0x01000 ≤ x ∧ x ≤ 0x01FFF → mayWrite i x) (hn : blockLength v = .ok n)
    (ha : cwbufRange w n = .ok a)
    (hps : positions n L = .ok ps) : Writes i (writeRegion i s) s (u.cwCorrect a (ps.zip M)) :=
  h.cwCorrect fun ⟨p, _⟩ hc => ⟨hregion _ (mayWrite_cwbuf ha
    (positions_lt (pos_of_blockLength hn) hps p (List.of_mem_zip hc).1)), fun hm => absurd (hi.symm.trans hm) (by decide)⟩

theorem execRsDecode_writes {s t : State} (h : execRsDecode s = .next t) :
    Writes .rsDecode (writeRegion .rsDecode s) s t := by
  have hstart := Writes.refl .rsDecode (writeRegion .rsDecode s) s
  refine Writes.settle h (.bind fun n hn => .bind fun twoS _ => .bind fun a ha => ?_)
  cases syndrome (norm (s.cwRead a n)) twoS with
  | mk S noError =>
    cases noError
    · exact .bind fun ⟨σ, ω⟩ _ => .bind fun L _ => .bind fun M _ => .bind fun ps hps =>
        .ok ((((hstart.cwCorrect_positions rfl (fun _ hx => hx) hn ha hps).setRs rfl _ _ _).setRes0 rfl _).setRes1 rfl _)
    · exact .ok (((hstart.setRs rfl _ _ _).setRes0 rfl _).setRes1 rfl _)

/-- Every instruction writes only what the spec lists for it (R25, R27, R35, R37, R93). -/
theorem exec_writes {i : Instr} {s t : State} (h : exec i s = .next t) : Writes i (writeRegion i s) s t := by
  have hstart := Writes.refl i (writeRegion i s) s
  cases i with
  | nop => exact Writes.settle (r := .ok s) h (.ok hstart)
  | clr =>
    refine Writes.settle (r := .ok _) h (.ok ⟨.refl s, fun j hj => ?_, nofun, .refl, nofun, nofun⟩)
    exact absurd (by revert j; decide) hj
  | gfAdd | gfMul | gfInv | gfLog =>
    exact Writes.settle h (.bind fun _ _ => .bind fun _ _ => .ok (hstart.setRes0 rfl _))
  | gfExp | polyEval | segAlnum | segKanji => exact Writes.settle h (.bind fun _ _ => .ok (hstart.setRes0 rfl _))
  | polyLoad d =>
    exact Writes.settle h (.bind fun _ _ => .bind fun _ _ =>
      .ok ((hstart.setPR (by simp [prDestinations]) _).setRes0 rfl _))
  | polyStore a =>
    refine Writes.settle h (.bind fun off hoff => .ok ((hstart.writeBytes fun x hx hlt => ?_).setRes0 rfl _))
    have hcw := mayWrite_cwbuf hoff (x := x - cwbufAddr off) (by omega)
    simp only [cwbufAddr] at hcw hx
    exact ⟨by simp only [mayWrite]; omega, nofun⟩
  | polyMono d =>
    exact Writes.settle h (.bind fun _ _ => .bind fun _ _ => .ok (hstart.setPR (by simp [prDestinations]) _))
  | polyAdd d a b => exact Writes.settle (r := .ok _) h (.ok (hstart.setPR (by simp [prDestinations]) _))
  | polyMul d a b | polyScale d a =>
    exact Writes.settle h (.bind fun _ _ => .ok (hstart.setPR (by simp [prDestinations]) _))
  | polyShift d a =>
    exact Writes.settle h (.bind fun _ _ => .bind fun _ _ => .bind fun _ _ =>
      .ok (hstart.setPR (by simp [prDestinations]) _))
  | polyDiv d e a b =>
    exact Writes.settle h (.bind fun _ _ => .bind fun ⟨q, r⟩ _ =>
      .ok ((hstart.setPR (by simp [prDestinations]) _).setPR (by simp [prDestinations]) _))
  | polyDeg a => exact Writes.settle (r := .ok _) h (.ok ((hstart.setRes0 rfl _).setRes1 rfl _))
  | polyCoef a => exact Writes.settle (r := .ok _) h (.ok (hstart.setRes0 rfl _))
  | rsSynd d =>
    exact Writes.settle h (.bind fun _ _ => .bind fun _ _ => .bind fun _ _ =>
      .ok ((hstart.setPR (by simp [prDestinations]) _).setRes0 rfl _))
  | rsEuclid d e a =>
    exact Writes.settle h (.bind fun _ _ => .bind fun _ _ => .bind fun ⟨σ, ω⟩ _ =>
      .ok ((hstart.setPR (by simp [prDestinations]) _).setPR (by simp [prDestinations]) _))
  | rsChien a => exact Writes.settle h (.bind fun _ _ => .ok ((hstart.setRs rfl _ _ _).setRes0 rfl _))
  | rsForney a => exact Writes.settle h (.bind fun _ _ => .ok ((hstart.setRs rfl _ _ _).setRes0 rfl _))
  | rsApply =>
    exact Writes.settle h (.bind fun n hn => .bind fun a ha => .bind fun ps hps =>
      .ok ((hstart.cwCorrect_positions rfl (fun _ hx => hx) hn ha hps).setRes0 rfl _))
  | rsDecode => exact execRsDecode_writes h
  | segDecode =>
    change execSegDecode s = _ at h
    unfold execSegDecode at h
    split at h <;> cases h
    · exact hstart.raise _
    · exact hstart.setSeg _ _
  | segCcb =>
    refine Writes.settle h (.bind fun m _ => .bind fun _ _ => ?_)
    cases SegMode.ofValue m with
    | none => exact .error
    | some mode => exact .ok (hstart.setRes0 rfl _)
  | segEci =>
    exact Writes.settle h (.bind fun _ _ => .bind fun ⟨_, _⟩ _ => .ok ((hstart.setRes0 rfl _).setRes1 rfl _))
  | modeTerminator =>
    change execModeTerminator s = _ at h
    unfold execModeTerminator at h
    split at h <;> cases h
    · exact hstart.segFail rfl rfl _
    · exact ((hstart.setRes0 rfl _).setRes1 rfl _).complete
  | modeNumeric | modeAlphanumeric | modeByte | modeKanji =>
    cases h; exact State.dataSegment_writes (fun _ ha => ha) rfl rfl
  | modeEci =>
    change execModeEci s = _ at h
    unfold execModeEci at h
    split at h <;> cases h
    · exact hstart.segFail rfl rfl _
    · exact hstart.setSeg s.segActive _

end Sys2Proof.Machine
end

section
/-! SUPPORT. The address map, read forwards and backwards, and little-endian numbers (10_state.md R29, 20_memory.md R61 to
R66, R70). -/

namespace Sys2Proof.Machine

/-! ### Numbers of bytes -/

theorem littleEndian_getD (n v j : Nat) (h : j < n) : (littleEndian n v).getD j 0#8 = BitVec.ofNat 8 (v / 256 ^ j) := by
  induction n generalizing v j with
  | zero => omega
  | succ n ih =>
    cases j with
    | zero => simp [littleEndian]
    | succ j =>
      have hdiv : v / 256 / 256 ^ j = v / 256 ^ (j + 1) := by rw [Nat.div_div_eq_div_mul, Nat.pow_succ']
      simpa [littleEndian, hdiv] using ih (v / 256) j (by omega)

theorem fromLittleEndian_lt (bs : List Byte) : fromLittleEndian bs < 256 ^ bs.length := by
  induction bs with
  | nil => decide
  | cons b bs ih =>
    have hb : b.toNat < 256 := b.isLt
    simp only [fromLittleEndian, List.length_cons, Nat.pow_succ]
    omega

theorem fromLittleEndian_digit (bs : List Byte) (j : Nat) :
    fromLittleEndian bs / 256 ^ j % 256 = (bs.getD j 0#8).toNat := by
  induction bs generalizing j with
  | nil => simp [fromLittleEndian]
  | cons b bs ih =>
    have hb : b.toNat < 256 := b.isLt
    cases j with
    | zero => simp only [fromLittleEndian, Nat.pow_zero, Nat.div_one, List.getD_cons_zero]; omega
    | succ j =>
      have htail : (b.toNat + 256 * fromLittleEndian bs) / 256 = fromLittleEndian bs := by omega
      rw [fromLittleEndian, Nat.pow_succ', ← Nat.div_div_eq_div_mul, htail, ih, List.getD_cons_succ]

theorem Width.bytes_cases (w : Width) : w.bytes = 1 ∨ w.bytes = 2 ∨ w.bytes = 4 := by
  cases w <;> simp [Width.bytes]

/-- A number of as many bytes as an access carries fits its 32 bits. -/
theorem fromLittleEndian_lt_word {w : Width} {bs : List Byte} (h : bs.length = w.bytes) :
    fromLittleEndian bs < 2 ^ 32 := by
  have hlt := fromLittleEndian_lt bs
  rw [h] at hlt
  cases w <;> simp only [Width.bytes] at hlt <;> omega

theorem ofNat_fromLittleEndian_toNat {w : Width} {bs : List Byte} (h : bs.length = w.bytes) :
    (BitVec.ofNat 32 (fromLittleEndian bs)).toNat = fromLittleEndian bs := by
  rw [BitVec.toNat_ofNat, Nat.mod_eq_of_lt (fromLittleEndian_lt_word h)]

/-! ### The address map -/

/-- The registers and their offsets (R29). -/
def registerPlaces : List (Nat × Place) :=
  [(0x00, .cmd), (0x04, .status), (0x08, .ctrl), (0x0C, .id), (0x10, .arg0), (0x14, .arg1), (0x18, .arg2), (0x1C, .res0),
    (0x20, .res1), (0x24, .errCnt)]

theorem registerAt_eq_some_iff (a : Nat) (p : Place) : registerAt a = some p ↔ (a, p) ∈ registerPlaces := by
  unfold registerAt
  split
  case h_11 => simp_all [registerPlaces]
  all_goals simp [registerPlaces, eq_comm]

theorem registerAt_of_aligned {a : Nat} (ha : a % 4 = 0) (hend : a + 4 ≤ 0x28) : registerAt a ≠ none := by
  obtain ⟨k, rfl⟩ : ∃ k, a = 4 * k := ⟨a / 4, by omega⟩
  have hregisters : ∀ k < 10, registerAt (4 * k) ≠ none := by decide
  exact hregisters k (by omega)

/-- What an access that passes the checks of R63 reaches, in the order of the address map. -/
inductive Reaches (w : Width) (a : Nat) : Place → Prop
  | register {p : Place} (hw : w = .w32) (h : (a, p) ∈ registerPlaces) : Reaches w a p
  | errLoc (h : 0x00400 ≤ a) (h' : a + w.bytes ≤ 0x004FF) : Reaches w a (.errLoc (a - 0x00400))
  | errMag (h : 0x00500 ≤ a) (h' : a + w.bytes ≤ 0x005FF) : Reaches w a (.errMag (a - 0x00500))
  | cwbuf (h : 0x01000 ≤ a) (h' : a + w.bytes ≤ 0x02000) : Reaches w a (.cwbuf a)
  | outbuf (h : 0x04000 ≤ a) (h' : a + w.bytes ≤ 0x07000) : Reaches w a (.outbuf a)
  | segtab (h : 0x08000 ≤ a) (h' : a + w.bytes ≤ 0x14000) : Reaches w a (.segtab a)

theorem within_iff (first last off n : Nat) : within first last off n = true ↔ first ≤ off ∧ off + n ≤ last + 1 := by
  simp [within]

/-- The map as a relation: an access reaches a place exactly when it is aligned and lies in that place's window. -/
theorem place_eq_some_iff (w : Width) (off : Offset) (p : Place) :
    place w off = some p ↔ off.toNat % w.bytes = 0 ∧ Reaches w off.toNat p := by
  unfold place
  simp only [within_iff]
  constructor
  · intro h
    split at h
    · cases h
    rename_i halign
    refine ⟨by omega, ?_⟩
    split at h
    · split at h
      · exact .register ‹_› ((registerAt_eq_some_iff _ p).1 h)
      · cases h
    split at h
    · obtain ⟨hlow, hhigh⟩ := ‹_ ∧ _›
      cases h
      exact .errLoc hlow (by omega)
    split at h
    · obtain ⟨hlow, hhigh⟩ := ‹_ ∧ _›
      cases h
      exact .errMag hlow (by omega)
    split at h
    · obtain ⟨hlow, hhigh⟩ := ‹_ ∧ _›
      cases h
      exact .cwbuf hlow (by omega)
    split at h
    · obtain ⟨hlow, hhigh⟩ := ‹_ ∧ _›
      cases h
      exact .outbuf hlow (by omega)
    split at h
    · obtain ⟨hlow, hhigh⟩ := ‹_ ∧ _›
      cases h
      exact .segtab hlow (by omega)
    · cases h
  · rintro ⟨halign, h⟩
    have hbytes := w.bytes_cases
    rw [if_neg (by omega)]
    cases h with
    | register hw h =>
      have hend : off.toNat + w.bytes ≤ 0x28 := by
        subst hw
        simp only [registerPlaces, List.mem_cons, Prod.mk.injEq, List.not_mem_nil, or_false] at h
        simp only [Width.bytes]
        omega
      rw [if_pos (by omega), if_pos hw]
      exact (registerAt_eq_some_iff _ p).2 h
    | errLoc h h' => rw [if_neg (by omega), if_pos (by omega)]
    | errMag h h' => rw [if_neg (by omega), if_neg (by omega), if_pos (by omega)]
    | cwbuf h h' => rw [if_neg (by omega), if_neg (by omega), if_neg (by omega), if_pos (by omega)]
    | outbuf h h' =>
      rw [if_neg (by omega), if_neg (by omega), if_neg (by omega), if_neg (by omega), if_pos (by omega)]
    | segtab h h' =>
      rw [if_neg (by omega), if_neg (by omega), if_neg (by omega), if_neg (by omega), if_neg (by omega),
        if_pos (by omega)]

/-- Every byte of an access that reaches a place is mapped (R66). -/
theorem Reaches.mapped {w : Width} {a : Nat} {p : Place} (h : Reaches w a p) {j : Nat} (hj : j < w.bytes) :
    MappedByte (a + j) := by
  simp only [MappedByte, InMemory]
  cases h with
  | register hw h =>
    subst hw
    simp only [registerPlaces, List.mem_cons, Prod.mk.injEq, List.not_mem_nil, or_false] at h
    simp only [Width.bytes] at hj
    omega
  | _ => omega

/-- An aligned access whose first and last bytes are mapped reaches a place, but for a narrow access to a register. -/
theorem exists_reaches {w : Width} {a : Nat} (halign : a % w.bytes = 0) (hfirst : MappedByte a)
    (hlast : MappedByte (a + (w.bytes - 1))) (hreg : a ≤ 0x00027 → w = .w32) : ∃ p, Reaches w a p := by
  have hwidth : w.bytes = 1 ∨ (w.bytes = 2 ∧ a % 2 = 0) ∨ (w.bytes = 4 ∧ a % 4 = 0) := by
    obtain hb | hb | hb := w.bytes_cases
    · exact .inl hb
    · exact .inr (.inl ⟨hb, hb ▸ halign⟩)
    · exact .inr (.inr ⟨hb, hb ▸ halign⟩)
  simp only [MappedByte, InMemory] at hfirst hlast
  obtain h | h | h | h | h | h := hfirst
  · obtain rfl := hreg h
    simp only [Width.bytes] at halign hlast
    obtain ⟨p, hp⟩ := Option.ne_none_iff_exists'.1 (registerAt_of_aligned halign (by omega))
    exact ⟨p, .register rfl ((registerAt_eq_some_iff a p).1 hp)⟩
  · exact ⟨_, .errLoc h.1 (by omega)⟩
  · exact ⟨_, .errMag h.1 (by omega)⟩
  · exact ⟨_, .cwbuf h.1 (by omega)⟩
  · exact ⟨_, .outbuf h.1 (by omega)⟩
  · exact ⟨_, .segtab h.1 (by omega)⟩

theorem place_eq_none_iff (w : Width) (off : Offset) : place w off = none ↔
    off.toNat % w.bytes ≠ 0 ∨ (∃ j, j < w.bytes ∧ ¬ MappedByte (off.toNat + j)) ∨ (off.toNat ≤ 0x00027 ∧ w ≠ .w32) := by
  have hbytes := w.bytes_cases
  have hnone : place w off = none ↔ ¬ ∃ p, off.toNat % w.bytes = 0 ∧ Reaches w off.toNat p := by
    rw [Option.eq_none_iff_forall_ne_some, not_exists]
    exact forall_congr' fun p => not_congr (place_eq_some_iff w off p)
  rw [hnone]
  constructor
  · intro h
    refine Classical.byContradiction fun hcon => ?_
    simp only [not_or, not_exists, not_and, Classical.not_not] at hcon
    obtain ⟨halign, hmapped, hreg⟩ := hcon
    obtain ⟨p, hp⟩ := exists_reaches halign (hmapped 0 (by omega)) (hmapped (w.bytes - 1) (by omega)) hreg
    exact h ⟨p, halign, hp⟩
  · rintro h ⟨p, halign, hp⟩
    obtain h | ⟨j, hj, hmapped⟩ | ⟨hlow, hw⟩ := h
    · exact h halign
    · exact hmapped (hp.mapped hj)
    · cases hp with
      | register hw' => exact hw hw'
      | _ => omega

/-! ### What a read puts together -/

theorem windowBytes_length (v : Vector Byte 255) {k n : Nat} (h : k + n ≤ 255) : (windowBytes v k n).length = n := by
  simp only [windowBytes, List.length_take, List.length_drop, Vector.length_toList]
  omega

theorem windowBytes_getD (v : Vector Byte 255) {k n j : Nat} (hj : j < n) :
    (windowBytes v k n).getD j 0#8 = v.toList.getD (k + j) 0#8 := by
  simp only [windowBytes, List.getD_eq_getElem?_getD, List.getElem?_take, if_pos hj, List.getElem?_drop]

theorem State.readBytes_getD (s : State) (a : Nat) {n j : Nat} (hj : j < n) :
    (s.readBytes a n).getD j 0#8 = s.readByte (a + j) := by
  rw [getD_of_lt (by rwa [s.readBytes_length])]
  simp [State.readBytes]

/-- A read of a window or a memory is a little-endian number of the bytes the host sees there (R29, R64). -/
theorem State.valueAt_eq {s : State} {w : Width} {a : Nat} {p : Place} (h : Reaches w a p) (ha : 0x00028 ≤ a) :
    ∃ bs, bs.length = w.bytes ∧ s.valueAt w p = BitVec.ofNat 32 (fromLittleEndian bs)
      ∧ ∀ j, j < w.bytes → bs.getD j 0#8 = s.visibleByte (a + j) := by
  have hmemory : 0x01000 ≤ a → ∀ j, j < w.bytes → (s.readBytes a w.bytes).getD j 0#8 = s.visibleByte (a + j) :=
    fun hlow j hj => by
      rw [s.readBytes_getD a hj, State.visibleByte, if_neg (by omega), if_neg (by omega)]
  cases h with
  | register hw h =>
    simp only [registerPlaces, List.mem_cons, Prod.mk.injEq, List.not_mem_nil, or_false] at h
    omega
  | errLoc h h' =>
    refine ⟨_, windowBytes_length s.errLoc (by omega), rfl, fun j hj => ?_⟩
    rw [windowBytes_getD _ hj, State.visibleByte, if_pos (by omega),
      show a - 0x00400 + j = a + j - 0x00400 by omega]
  | errMag h h' =>
    refine ⟨_, windowBytes_length s.errMag (by omega), rfl, fun j hj => ?_⟩
    rw [windowBytes_getD _ hj, State.visibleByte, if_neg (by omega), if_pos (by omega),
      show a - 0x00500 + j = a + j - 0x00500 by omega]
  | cwbuf h h' => exact ⟨_, s.readBytes_length a _, rfl, hmemory h⟩
  | outbuf h h' => exact ⟨_, s.readBytes_length a _, rfl, hmemory (by omega)⟩
  | segtab h h' => exact ⟨_, s.readBytes_length a _, rfl, hmemory (by omega)⟩

end Sys2Proof.Machine
end

section
/-! SUPPORT. What the host can do to the block in one step, what the sequencer can, and from both how an invariant is kept by
every step (10_state.md R21, R22, 70_reset_and_hazards.md R321 to R333). -/

namespace Sys2Proof.Machine

/-! ### Places -/

/-- A host access reaches CWBUF at bus offsets of CWBUF (R61). -/
theorem place_cwbuf {w : Width} {off : Offset} {a : Nat} (h : place w off = some (.cwbuf a)) :
    a = off.toNat ∧ 0x01000 ≤ a ∧ a + w.bytes ≤ 0x02000 := by
  obtain ⟨-, hreach⟩ := (place_eq_some_iff w off _).1 h
  cases hreach with
  | register _ h => simp [registerPlaces] at h
  | cwbuf hlow hhigh => exact ⟨rfl, hlow, hhigh⟩

@[simp] theorem littleEndian_length (n v : Nat) : (littleEndian n v).length = n := by
  induction n generalizing v with
  | zero => rfl
  | succ n ih => simp [littleEndian, ih]

/-! ### The host's moves -/

/-- A move of the host that leaves the command in progress and the results alone, and writes no memory but CWBUF. -/
structure HostKeeps (s t : State) : Prop where
  seq : t.seq = s.seq
  done : t.done = true → s.done = true
  err : t.err = s.err
  errCode : t.errCode = s.errCode
  errDetail : t.errDetail = s.errDetail
  curCmd : t.curCmd = s.curCmd
  curArg0 : t.curArg0 = s.curArg0
  curArg1 : t.curArg1 = s.curArg1
  curArg2 : t.curArg2 = s.curArg2
  errCnt : t.errCnt = s.errCnt
  errLoc : t.errLoc = s.errLoc
  errMag : t.errMag = s.errMag
  segActive : t.segActive = s.segActive
  seg : t.seg = s.seg
  mem : Stores (fun a => 0x01000 ≤ a ∧ a ≤ 0x01FFF) s.mem t.mem

/-- The fields the host may change freely. -/
theorem HostKeeps.of_update (s : State) (ovr ie rst : Bool) (arg0 arg1 arg2 : Word) (draws busyLeft : Nat)
    (queue : List HostOp) (reply : Option HostReply) :
    HostKeeps s { s with
      ovr := ovr, ie := ie, rst := rst, arg0 := arg0, arg1 := arg1, arg2 := arg2, draws := draws, busyLeft := busyLeft
      hostQueue := queue, reply := reply } :=
  ⟨rfl, id, rfl, rfl, rfl, rfl, rfl, rfl, rfl, rfl, rfl, rfl, rfl, rfl, .refl⟩

theorem HostKeeps.queue (s : State) (q : List HostOp) : HostKeeps s { s with hostQueue := q } := .of_update ..

theorem HostKeeps.trans {s t u : State} (h : HostKeeps s t) (hm : t.mem = s.mem) (h' : HostKeeps t u) : HostKeeps s u where
  seq := h'.seq.trans h.seq
  done := h.done ∘ h'.done
  err := h'.err.trans h.err
  errCode := h'.errCode.trans h.errCode
  errDetail := h'.errDetail.trans h.errDetail
  curCmd := h'.curCmd.trans h.curCmd
  curArg0 := h'.curArg0.trans h.curArg0
  curArg1 := h'.curArg1.trans h.curArg1
  curArg2 := h'.curArg2.trans h.curArg2
  errCnt := h'.errCnt.trans h.errCnt
  errLoc := h'.errLoc.trans h.errLoc
  errMag := h'.errMag.trans h.errMag
  segActive := h'.segActive.trans h.segActive
  seg := h'.seg.trans h.seg
  mem := hm ▸ h'.mem

/-- What the host can do in one step: leave the block's work alone, issue a command while it is IDLE, or reset it. -/
inductive HostMoves (s : State) : State → Prop
  | keeps {t : State} (h : HostKeeps s t) : HostMoves s t
  | issues {u : State} (w : Word) (r : HostReply) (hidle : s.seq = .idle) (h : HostKeeps s u) :
      HostMoves s { u.issue w with reply := some r }
  | resets (epoch draws : Nat) (queue : List HostOp) :
      HostMoves s { State.reset with rst := true, epoch := epoch, draws := draws, hostQueue := queue }

theorem State.countAccess_keeps (s : State) : HostKeeps s s.countAccess := .of_update ..

theorem State.hostRead_keeps (s : State) (w : Width) (off : Offset) : HostKeeps s (s.hostRead w off) := by
  unfold State.hostRead
  split
  · exact .of_update ..
  · split <;> exact .of_update ..

theorem State.writeCwbuf_keeps (s : State) {w : Width} {off : Offset} {a : Nat} (h : place w off = some (.cwbuf a))
    (data : Word) : HostKeeps s (s.writeBytes a (littleEndian w.bytes data.toNat)) := by
  obtain ⟨-, hlow, hhigh⟩ := place_cwbuf h
  have hmem := (Stores.refl (R := fun x => 0x01000 ≤ x ∧ x ≤ 0x01FFF) (m := s.mem)).writeBytes (a := a)
    (vs := littleEndian w.bytes data.toNat) fun x hx hlt => by rw [littleEndian_length] at hlt; omega
  exact ⟨by simp, by simp, by simp, by simp, by simp, by simp, by simp, by simp, by simp, by simp, by simp, by simp,
    by simp, by simp, hmem⟩

theorem State.hostWrite_moves (s : State) (w : Width) (off : Offset) (data : Word) :
    HostMoves s (s.hostWrite w off data) := by
  have hreply (u : State) (r : HostReply) (h : HostKeeps s u) : HostMoves s { u with reply := some r } :=
    .keeps ⟨h.seq, h.done, h.err, h.errCode, h.errDetail, h.curCmd, h.curArg0, h.curArg1, h.curArg2, h.errCnt, h.errLoc,
      h.errMag, h.segActive, h.seg, h.mem⟩
  have hself : HostKeeps s s := HostKeeps.queue s s.hostQueue
  cases hp : place w off with
  | none => rw [State.hostWrite_none hp]; exact hreply s _ hself
  | some p =>
    cases hs : s.seq with
    | busy =>
      rw [State.hostWrite_busy hp hs]
      cases p with
      | cmd => exact .keeps (.of_update ..)
      | _ => exact hreply s _ hself
    | idle =>
      cases hr : s.rst with
      | true => rw [State.hostWrite_held hr hp hs]; exact hreply s _ hself
      | false =>
        rw [State.hostWrite_idle hr hp hs]
        cases p with
        | cmd => exact .issues data _ hs hself
        | status => exact hreply (s.clearStatus data) _ ⟨rfl, fun h => (Bool.and_eq_true_iff.1 h).1, rfl, rfl, rfl, rfl, rfl,
            rfl, rfl, rfl, rfl, rfl, rfl, rfl, .refl⟩
        | ctrl | arg0 | arg1 | arg2 => exact .keeps (.of_update ..)
        | cwbuf a => exact hreply _ _ (s.writeCwbuf_keeps hp data)
        | _ => exact hreply s _ hself

theorem State.setRst_moves (s : State) (asserted : Bool) : HostMoves s (s.setRst asserted) := by
  unfold State.setRst
  split
  · exact .resets _ _ _
  · exact .keeps (.of_update ..)

/-- Moves compose with a first part that keeps the memory too. -/
theorem HostMoves.after {s t u : State} (h : HostKeeps s t) (hm : t.mem = s.mem) (h' : HostMoves t u) : HostMoves s u := by
  cases h' with
  | keeps h' => exact .keeps (h.trans hm h')
  | issues w r hidle h' => exact .issues w r (h.seq ▸ hidle) (h.trans hm h')
  | resets epoch draws queue => exact .resets epoch draws queue

theorem State.hostStep_moves (s : State) (op : HostOp) (rest : List HostOp) : HostMoves s (s.hostStep op rest) := by
  have hqueue := HostKeeps.queue s rest
  have haccess := hqueue.trans rfl (State.countAccess_keeps _)
  cases op with
  | read w off => exact .after haccess rfl (.keeps (State.hostRead_keeps _ w off))
  | write w off data => exact .after haccess rfl (State.hostWrite_moves _ w off data)
  | wait => exact .after haccess rfl (.keeps (.of_update ..))
  | rst asserted => exact .after hqueue rfl (State.setRst_moves _ asserted)
  | pass => exact .keeps hqueue

/-! ### Invariants -/

/-- What the host's moves, the instructions and the errors of the fetch keep, every step keeps (R21, R22). -/
theorem step_keeps {P : State → Prop} (hhost : ∀ s t, P s → HostMoves s t → P t)
    (hexec : ∀ s t i, P s → s.seq = .busy → s.fetch = .ok i → exec i s = .next t → P t)
    (hfail : ∀ s e, P s → P (s.fetchFail e)) {s t : State} (hs : P s) (h : step s = .next t) : P t := by
  obtain ⟨op, rest, -, -, -, rfl⟩ | ⟨u, hu, hseq⟩ := step_cases h
  · exact hhost s _ hs (s.hostStep_moves op rest)
  · have hPu : P u := by
      obtain rfl | ⟨rest, -, rfl⟩ := hu
      · exact hs
      · exact hhost s _ hs (.keeps (.queue s rest))
    obtain ⟨-, rfl⟩ | ⟨hbusy, i, hi, hrun⟩ | ⟨-, e, -, rfl⟩ := sequencerStep_cases hseq
    · exact hPu
    · exact hexec u t i hPu hbusy hi hrun
    · exact hfail u e hPu

/-- The instruction fetched outside SEG.DECODE is the command latched; inside it is a mode indicator (R22, R226). -/
theorem decode_isMode {w : Word} {i : Instr} (h : decode w = .ok i) : i.isMode = false := by
  obtain ⟨h, -⟩ := decode_eq_ok_iff.1 h
  unfold decodeOp at h
  split at h <;> cases h <;> rfl

theorem decodeMode_isMode {m : BitVec 4} {i : Instr} (h : decodeMode m = .ok i) : i.isMode = true := by
  unfold decodeMode at h
  split at h <;> cases h <;> rfl

theorem State.nextMode_isMode {s : State} {i : Instr} (h : s.nextMode = .ok i) : i.isMode = true := by
  unfold State.nextMode at h
  split at h
  · cases h; rfl
  · exact decodeMode_isMode h

theorem State.fetch_isMode {s : State} {i : Instr} (h : s.fetch = .ok i) : i.isMode = s.segActive := by
  unfold State.fetch at h
  split at h
  · rw [State.nextMode_isMode h, ‹s.segActive = true›]
  · rw [decode_isMode h, (Bool.not_eq_true _).mp ‹¬ s.segActive = true›]

end Sys2Proof.Machine
end

section
/-! SUPPORT. The rules about every step and every instruction: which instruction a step runs, the invariants, what an
instruction may write and what an error leaves (10_state.md, 60_exceptions.md, 43_segment.md section 4). -/

namespace Sys2Proof.Machine

/-! ### Which instruction a step runs -/

theorem sequencerStep_of_fetch {s : State} {i : Instr} (hb : s.seq = .busy) (hi : s.fetch = .ok i) :
    sequencerStep s = exec i s := by
  simp only [sequencerStep, hb, hi]

theorem sequencerStep_of_error {s : State} {e : Err} (hb : s.seq = .busy) (he : s.fetch = .error e) :
    sequencerStep s = .next (s.fetchFail e) := by
  simp only [sequencerStep, hb, he]

theorem State.fetch_of_command {s : State} (h : s.segActive = false) : s.fetch = decode s.curCmd := by
  simp [State.fetch, h]

theorem State.fetch_of_segment {s : State} (h : s.segActive = true) : s.fetch = s.nextMode := by
  simp [State.fetch, h]

/-- Settles O5: at the sequencer's turn, or one the host passes, the fetch is the latched word. -/
theorem stepRunsTheLatchedCommand : Obligations.StepRunsTheLatchedCommand := by
  refine ⟨fun s i hb hs ht hi => ?turn, fun s i rest hb hs hq hi => ?pass, fun s hs hq => ?idle, fun s w i hi => ?issued⟩
  case turn => rw [step_sequencer ht, sequencerStep_of_fetch hb ((State.fetch_of_command hs).trans hi)]
  case pass => rw [step_pass hq]; exact sequencerStep_of_fetch hb ((State.fetch_of_command hs).trans hi)
  case idle => rw [step_sequencer (.inl hq), sequencerStep, hs]
  case issued =>
    have hw : s.withFetchWord 32 w.toNat = s.withCommand w := by simp [State.withFetchWord]
    rw [hw, step_sequencer (.inl rfl)]
    exact sequencerStep_of_fetch rfl ((State.fetch_of_command rfl).trans hi)

/-- R229: the only error of the mode indicator decoder. -/
theorem decodeMode_error {m : BitVec 4} {e : Err} (h : decodeMode m = .error e) : e = .badMode := by
  unfold decodeMode at h
  split at h <;> cases h
  rfl

/-- Settles O6: the fetch inside SEG.DECODE, in its three cases. -/
theorem stepRunsTheModeIndicator : Obligations.StepRunsTheModeIndicator := by
  intro s hb hs ht
  have hfetch := State.fetch_of_segment hs
  rw [State.nextMode] at hfetch
  rw [step_sequencer ht]
  split
  · rename_i havail
    rw [if_pos havail] at hfetch
    exact sequencerStep_of_fetch hb hfetch
  · rename_i havail
    rw [if_neg havail] at hfetch
    cases hm : decodeMode (BitVec.ofNat 4 (s.streamField s.seg.pos 4)) with
    | ok i => exact sequencerStep_of_fetch hb (hfetch.trans hm)
    | error e =>
      obtain rfl := decodeMode_error hm
      refine ⟨_, sequencerStep_of_error hb (hfetch.trans hm), ?_⟩
      rw [State.fetchFail, if_pos hs]
      exact s.segFail_failed .badMode

/-- Settles O7: the host's move, a wait, an instruction or an error of the fetch gives a next state. -/
theorem stepAlwaysAnswers : Obligations.StepAlwaysAnswers := by
  intro s
  unfold step
  split
  · exact ⟨_, rfl, trivial⟩
  · rename_i u _
    unfold sequencerStep
    split
    · exact ⟨_, rfl, trivial⟩
    · split
      · obtain ⟨t, ht, -⟩ := exec_answers ‹Instr› u
        exact ⟨t, ht, trivial⟩
      · exact ⟨_, rfl, trivial⟩

/-! ### Completion of a BUSY block -/

/-- The block runs to its completion in at most `n` steps. -/
def State.CompletesWithin (s : State) (n : Nat) : Prop :=
  ∃ (k : Nat) (t : State), k ≤ n ∧ Host.Core.run Sys2Proof.core k s = .next t ∧ t.seq = .idle ∧ t.done = true

theorem State.CompletesWithin.mono {s : State} {m n : Nat} (h : s.CompletesWithin m) (hmn : m ≤ n) : s.CompletesWithin n :=
  let ⟨k, t, hk, hrun⟩ := h
  ⟨k, t, Nat.le_trans hk hmn, hrun⟩

theorem State.CompletesWithin.of_step {s t : State} {n : Nat} (hst : step s = .next t)
    (h : (t.seq = .idle ∧ t.done = true) ∨ t.CompletesWithin n) : s.CompletesWithin (n + 1) := by
  have hrun : ∀ k, Host.Core.run Sys2Proof.core (k + 1) s = Host.Core.run Sys2Proof.core k t := fun k => by
    simp only [Host.Core.run, show Sys2Proof.core.step s = .next t from hst]
  obtain ⟨hidle, hdone⟩ | ⟨k, u, hk, hu, hend⟩ := h
  · exact ⟨1, t, by omega, hrun 0, hidle, hdone⟩
  · exact ⟨k + 1, u, by omega, (hrun k).trans hu, hend⟩

/-- Inside SEG.DECODE each indicator ends the command or consumes at least 12 bits. -/
theorem State.completesWithin_of_segment {s : State} {n : Nat} (hb : s.seq = .busy) (hq : s.hostQueue = [])
    (hseg : s.segActive = true) (hn : s.avail s.seg.pos < 12 * n) : s.CompletesWithin n := by
  induction n generalizing s with
  | zero => omega
  | succ n ih =>
    have hstep : step s = sequencerStep s := step_sequencer (.inl hq)
    have hfetch := State.fetch_of_segment hseg
    cases hi : s.nextMode with
    | error e =>
      refine .of_step (hstep.trans (sequencerStep_of_error hb (hfetch.trans hi))) (.inl ?_)
      rw [State.fetchFail, if_pos hseg]
      exact ⟨rfl, rfl⟩
    | ok i =>
      obtain ⟨t, ht, hruns⟩ := exec_answers i s
      refine .of_step ((hstep.trans (sequencerStep_of_fetch hb (hfetch.trans hi))).trans ht) ?_
      cases hruns with
      | completes u => exact .inl ⟨rfl, rfl⟩
      | raises e => exact .inl ⟨rfl, rfl⟩
      | fails e out => exact .inl ⟨rfl, rfl⟩
      | starts hstart => subst hstart; exact absurd (State.nextMode_isMode hi) (by decide)
      | records m count pos out hmode hlow hhigh =>
        rw [State.segRecord_eq]
        refine .inr (ih (by simpa using hb) (by simpa using hq) (by simpa using hseg) ?_)
        simp only [State.avail, State.writeBytes_curArg1] at hn ⊢
        omega
      | designates v pos hmode hlow hhigh =>
        refine .inr (ih hb hq hseg ?_)
        simp only [State.avail] at hn ⊢
        omega

/-- Settles O8: one step for the command, and 12 bits at least for each indicator of a SEG.DECODE. -/
theorem busyCommandCompletes : Obligations.BusyCommandCompletes := by
  intro s hb hq
  cases hseg : s.segActive with
  | true =>
    refine (State.completesWithin_of_segment (n := s.avail s.seg.pos / 12 + 1) hb hq hseg ?_).mono ?_
    · omega
    · simp only [State.avail]; omega
  | false =>
    have hstep : step s = sequencerStep s := step_sequencer (.inl hq)
    have hfetch := State.fetch_of_command hseg
    change s.CompletesWithin (2 * s.curArg1.toNat + 1 + 1)
    cases hi : decode s.curCmd with
    | error e =>
      refine .of_step (hstep.trans (sequencerStep_of_error hb (hfetch.trans hi))) (.inl ?_)
      rw [State.fetchFail, hseg]
      exact ⟨rfl, rfl⟩
    | ok i =>
      have hmode := decode_isMode hi
      obtain ⟨t, ht, hruns⟩ := exec_answers i s
      refine .of_step ((hstep.trans (sequencerStep_of_fetch hb (hfetch.trans hi))).trans ht) ?_
      cases hruns with
      | completes u => exact .inl ⟨rfl, rfl⟩
      | raises e => exact .inl ⟨rfl, rfl⟩
      | starts => exact .inr (State.completesWithin_of_segment hb hq rfl (by simp only [State.avail]; omega))
      | fails _ _ h | records _ _ _ _ h | designates _ _ h => exact absurd (hmode.symm.trans h) (by decide)

/-! ### Invariants at reset -/

/-- Settles O9: the values of reset meet each invariant. -/
theorem resetMeetsTheInvariants : Obligations.ResetMeetsTheInvariants := by
  refine ⟨State.reset_wf, State.polysOk_of_pr_zero rfl, ⟨nofun, fun _ => ⟨rfl, rfl⟩, nofun⟩, ⟨fun _ => rfl, nofun⟩,
    ⟨?_, ?_, fun k _ => ⟨?_, ?_⟩⟩, nofun, nofun⟩
  · simp [State.locations]
  · simp [State.locations]
  · exact Vector.getElem_replicate k.isLt
  · exact Vector.getElem_replicate k.isLt

/-! ### Memory -/

theorem State.fetchFail_mem (s : State) (e : Err) : (s.fetchFail e).mem = s.mem := by
  unfold State.fetchFail; split <;> rfl

/-- Settles O10: every write is a store, which keeps the form, and a reset lists nothing. -/
theorem memoryStaysCanonical : Obligations.MemoryStaysCanonical := by
  intro s t hs h
  refine step_keeps (P := fun u => Memory.wf u.mem) (fun s t hs hm => ?host)
    (fun s t i hs _ _ hi => (exec_writes hi).mem.wf hs) (fun s e hs => (s.fetchFail_mem e).symm ▸ hs) hs h
  case host =>
    cases hm with
    | keeps h => exact h.mem.wf hs
    | issues w r hidle h => exact h.mem.wf hs
    | resets => exact State.reset_wf

/-- R247: within bounds, what a mode indicator can reach lies in OUTBUF and SEGTAB. -/
theorem segmentMayWrite_of_reach {s : State} (hs : s.SegOk) (hseg : s.segActive = true) {a : Nat}
    (h : segmentReach s a) : segmentMayWrite s a := by
  obtain ⟨-, -, -, -, hrange, hpos, hnout, hnseg⟩ := hs.2 hseg
  rcases h with ⟨hlow, hlen⟩ | h
  · refine .inl ⟨hlow, ?_⟩
    simp only [State.avail] at hlen
    omega
  · exact .inr h

theorem segmentMayWrite_inMemory {s : State} (hs : s.SegOk) (hseg : s.segActive = true) {a : Nat}
    (h : segmentMayWrite s a) : InMemory a := by
  obtain ⟨-, -, -, -, hrange, hpos, hnout, hnseg⟩ := hs.2 hseg
  simp only [segmentMayWrite] at h
  simp only [InMemory]
  omega

/-- An instruction fetched in a state within bounds writes mapped memory only (R61, R62, R247). -/
theorem writeRegion_inMemory {i : Instr} {s : State} (hs : s.SegOk) (hi : i.isMode = s.segActive) {a : Nat}
    (h : writeRegion i s a) : InMemory a := by
  obtain ⟨hmay, hreach⟩ := h
  cases hseg : s.segActive with
  | true => exact segmentMayWrite_inMemory hs hseg (segmentMayWrite_of_reach hs hseg (hreach (hi.trans hseg)))
  | false =>
    rw [hseg] at hi
    cases i with
    | polyStore | rsApply | rsDecode => exact .inl hmay
    | modeNumeric | modeAlphanumeric | modeByte | modeKanji => cases hi
    | _ => exact hmay.elim

/-! ### The segment decoder -/

/-- Outside SEG.DECODE, with nothing held, the bounds hold. -/
theorem State.SegOk.of_inactive {s : State} (h : s.segActive = false) (hseg : s.seg = SegRun.start) : s.SegOk :=
  ⟨fun _ => hseg, fun h' => absurd (h.symm.trans h') (by decide)⟩

theorem State.SegOk.hostMoves {s t : State} (hs : s.SegOk) (h : HostMoves s t) : t.SegOk := by
  cases h with
  | keeps h =>
    unfold State.SegOk
    rw [h.segActive, h.seg, h.seq, h.curCmd, h.curArg0, h.curArg1, h.curArg2]
    exact hs
  | issues w r hidle h => exact .of_inactive rfl rfl
  | resets => exact .of_inactive rfl rfl

theorem State.SegOk.fetchFail {s : State} (e : Err) : (s.fetchFail e).SegOk := by
  unfold State.fetchFail
  split <;> exact .of_inactive rfl rfl

/-- Twelve bits at least for a record, ten for three bytes of output (R247). -/
theorem State.SegOk.exec {s t : State} {i : Instr} (hs : s.SegOk) (hb : s.seq = .busy) (hi : s.fetch = .ok i)
    (h : exec i s = .next t) : t.SegOk := by
  have hmode := State.fetch_isMode hi
  cases exec_runs h with
  | completes u => exact .of_inactive rfl rfl
  | raises e => exact .of_inactive rfl rfl
  | fails e out => exact .of_inactive rfl rfl
  | starts hstart hv hv' hrange =>
    subst hstart
    rw [State.fetch_of_command hmode.symm] at hi
    exact ⟨nofun, fun _ => ⟨hb, hi, hv, hv', hrange, Nat.zero_le _, Nat.zero_le _, Nat.zero_le _⟩⟩
  | records m count pos out hm hlow hhigh hout =>
    obtain ⟨hbusy, hcmd, hv, hv', hrange, hpos, hnout, hnseg⟩ := hs.2 (hmode.symm.trans hm)
    rw [State.segRecord_eq]
    refine ⟨fun hoff => ?_, fun _ => ?_⟩
    · exact absurd ((hm.symm.trans hmode).trans (by simpa using hoff)) (by decide)
    · simp only [State.writeBytes_seq, State.writeBytes_curCmd, State.writeBytes_curArg0, State.writeBytes_curArg1,
        State.writeBytes_curArg2, State.writeBytes_seg]
      exact ⟨hbusy, hcmd, hv, hv', hrange, hhigh, by omega, by omega⟩
  | designates v pos hm hlow hhigh =>
    have hactive := hmode.symm.trans hm
    obtain ⟨hbusy, hcmd, hv, hv', hrange, hpos, hnout, hnseg⟩ := hs.2 hactive
    refine ⟨fun hoff => absurd (hactive.symm.trans hoff) (by decide), fun _ => ?_⟩
    exact ⟨hbusy, hcmd, hv, hv', hrange, hhigh, by simp only; omega, by simp only; omega⟩

theorem State.SegOk.step {s t : State} (hs : s.SegOk) (h : step s = .next t) : t.SegOk :=
  step_keeps (fun _ _ hs => hs.hostMoves) (fun _ _ _ hs hb hi => hs.exec hb hi) (fun _ e _ => .fetchFail e) hs h

/-- Settles O13: the bounds are kept, and with at most 32768 bits of input they bound the counts. -/
theorem segmentDecoderStaysInBounds : Obligations.SegmentDecoderStaysInBounds := by
  refine ⟨fun s t hs h => hs.step h, fun s hs => ?_⟩
  cases hseg : s.segActive with
  | false => rw [hs.1 hseg]; exact ⟨by decide, by decide⟩
  | true =>
    obtain ⟨-, -, -, -, hrange, hpos, hnout, hnseg⟩ := hs.2 hseg
    omega

/-- Settles O15: a cell is an old one or lies in the region of the instruction or of the host's write. -/
theorem writesStayInMappedMemory : Obligations.WritesStayInMappedMemory := by
  intro s t hseg hs h
  have hkeeps : ∀ {m m' : List Host.Cell} {R : Nat → Prop}, (∀ a, R a → InMemory a) → Stores R m m' →
      (∀ c ∈ m, InMemory c.1) → ∀ c ∈ m', InMemory c.1 := fun hR hm hold c hc => (hm.mem hc).elim (hR _) (hold c)
  refine (step_keeps (P := fun u => u.SegOk ∧ u.MemMapped) (fun s t hs hm => ⟨hs.1.hostMoves hm, ?host⟩)
    (fun s t i hs hb hi hx => ⟨hs.1.exec hb hi hx, ?exec⟩) (fun s e hs => ⟨.fetchFail e, ?fail⟩) ⟨hseg, hs⟩ h).2
  case host =>
    cases hm with
    | keeps h => exact hkeeps (fun a => .inl) h.mem hs.2
    | issues w r hidle h => exact hkeeps (fun a => .inl) h.mem hs.2
    | resets => exact nofun
  case exec => exact hkeeps (fun a => writeRegion_inMemory hs.1 (State.fetch_isMode hi)) (exec_writes hx).mem hs.2
  case fail => rw [State.MemMapped, s.fetchFail_mem]; exact hs.2

/-! ### STATUS -/

theorem State.StatusOk.of_idle {s : State} (hi : s.seq = .idle)
    (h : (s.err = false ∧ s.errCode = 0#4 ∧ s.errDetail = 0#4)
      ∨ ∃ e : Err, s.err = true ∧ s.errCode = e.code ∧ s.errDetail = e.detail) : s.StatusOk := by
  refine ⟨fun hb => absurd (hi.symm.trans hb) (by decide), fun he => ?_, fun he => ?_⟩
  · obtain ⟨-, hcodes⟩ | ⟨e, he', -⟩ := h
    · exact hcodes
    · cases he.symm.trans he'
  · obtain ⟨he', -⟩ | ⟨e, -, hcodes⟩ := h
    · cases he.symm.trans he'
    · exact ⟨e, hcodes⟩

theorem State.StatusOk.of_same {s t : State} (hs : s.StatusOk) (hseq : t.seq = s.seq) (hd : t.done = true → s.done = true)
    (he : t.err = s.err) (hc : t.errCode = s.errCode) (hdet : t.errDetail = s.errDetail) : t.StatusOk := by
  obtain ⟨hbusy, hnone, hsome⟩ := hs
  rw [State.StatusOk, hseq, he, hc, hdet]
  refine ⟨fun hb => ?_, hnone, hsome⟩
  obtain ⟨hdone, herr⟩ := hbusy hb
  exact ⟨by simpa [hdone] using hd, herr⟩

theorem State.StatusOk.hostMoves {s t : State} (hs : s.StatusOk) (h : HostMoves s t) : t.StatusOk := by
  cases h with
  | keeps h => exact hs.of_same h.seq h.done h.err h.errCode h.errDetail
  | issues w r hidle h => exact ⟨fun _ => ⟨rfl, rfl⟩, fun _ => ⟨rfl, rfl⟩, nofun⟩
  | resets => exact .of_idle rfl (.inl ⟨rfl, rfl, rfl⟩)

theorem State.StatusOk.exec {s t : State} {i : Instr} (hs : s.StatusOk) (h : exec i s = .next t) : t.StatusOk := by
  cases exec_runs h with
  | completes u => exact .of_idle rfl (.inl ⟨rfl, rfl, rfl⟩)
  | raises e => exact .of_idle rfl (.inr ⟨e, rfl, rfl, rfl⟩)
  | fails e out => exact .of_idle rfl (.inr ⟨e, rfl, rfl, rfl⟩)
  | starts => exact hs.of_same rfl id rfl rfl rfl
  | records m count pos out =>
    rw [State.segRecord_eq]
    exact hs.of_same (by simp) (by simp) (by simp) (by simp) (by simp)
  | designates => exact hs.of_same rfl id rfl rfl rfl

theorem State.StatusOk.fetchFail {s : State} (e : Err) : (s.fetchFail e).StatusOk := by
  unfold State.fetchFail
  split <;> exact .of_idle rfl (.inr ⟨e, rfl, rfl, rfl⟩)

/-- Settles O12: every way a step can end sets the flags together; the table by its 21 rows. -/
theorem statusStaysConsistent : Obligations.StatusStaysConsistent := by
  refine ⟨fun s t hs h => ?_, fun e => ?_⟩
  · exact step_keeps (fun _ _ hs => hs.hostMoves) (fun _ _ _ hs _ _ => hs.exec) (fun _ e _ => .fetchFail e) hs h
  · cases e <;> decide

/-! ### The RS arrays -/

theorem State.RsOk.of_same {s t : State} (hs : s.RsOk) (h : SameRs s t) : t.RsOk := by
  obtain ⟨hcnt, hloc, hmag⟩ := h
  rw [State.RsOk, State.locations, hcnt, hloc, hmag]
  exact hs

theorem State.rsOk_of_clear {s : State} (hcnt : s.errCnt = 0#8) (hloc : s.errLoc = Vector.replicate 255 0#8)
    (hmag : s.errMag = Vector.replicate 255 0#8) : s.RsOk := by
  refine ⟨by simp [State.locations, hcnt], by simp [State.locations, hcnt], fun k _ => ⟨?_, ?_⟩⟩
  · rw [hloc]; exact Vector.getElem_replicate k.isLt
  · rw [hmag]; exact Vector.getElem_replicate k.isLt

theorem rsArray_take {L : List Byte} (h : L.length ≤ 255) : (rsArray L).toList.take L.length = L := by
  refine List.ext_getElem (by simp; omega) fun k hk hkL => ?_
  have hk255 : k < 255 := by omega
  have hget := rsArray_getElem L ⟨k, hk255⟩
  rw [getD_of_lt hkL] at hget
  simpa using hget

/-- Arrays filled from a list of distinct nonzero locations, with at most as many magnitudes. -/
theorem State.rsOk_of_arrays {s : State} {L M : List Byte} (hcnt : s.errCnt = BitVec.ofNat 8 L.length)
    (hloc : s.errLoc = rsArray L) (hmag : s.errMag = rsArray M) (hlen : L.length ≤ 255) (hM : M.length ≤ L.length)
    (hL : L.Nodup) (h0 : 0#8 ∉ L) : s.RsOk := by
  have hcount : s.errCnt.toNat = L.length := by rw [hcnt]; exact Nat.mod_eq_of_lt (Nat.lt_succ_of_le hlen)
  have hlocs : s.locations = L := by rw [State.locations, hcount, hloc, rsArray_take hlen]
  rw [State.RsOk, hlocs, hcount, hloc, hmag]
  refine ⟨hL, h0, fun k hk => ⟨?_, ?_⟩⟩
  · rw [rsArray_getElem, getD_of_le hk]
  · rw [rsArray_getElem, getD_of_le (by omega)]

theorem State.RsOk.settle {s t : State} {r : Except Err State} (hs : s.RsOk) (h : s.settle r = .next t)
    (hr : Yields State.RsOk r) : t.RsOk := by
  obtain ⟨u, hu, rfl⟩ | ⟨e, -, rfl⟩ := State.settle_cases h
  · exact (hr u hu).of_same (.refl u)
  · exact hs.of_same (.refl s)

theorem forney_length {omega : Poly} {L M : List Byte} (hL : L.Nodup) (h0 : 0#8 ∉ L) (h : forney omega L = .ok M) :
    M.length = L.length := by
  obtain ⟨M', hM', hlen⟩ := forney_answers omega hL h0
  rw [h] at hM'
  cases hM'
  exact hlen

/-- RS.FORNEY keeps the count and the locations, and the magnitudes past the count (R196). -/
theorem State.RsOk.setMagnitudes {s : State} (hs : s.RsOk) {M : List Byte} (hM : M.length = s.errCnt.toNat) :
    State.RsOk { s with errMag := rsArray (M ++ s.errMag.toList.drop M.length) } := by
  obtain ⟨hL, h0, hrest⟩ := hs
  refine ⟨by simpa only [State.locations] using hL, by simpa only [State.locations] using h0, fun k hk => ?_⟩
  change s.errCnt.toNat ≤ k.val at hk
  refine ⟨(hrest k hk).1, ?_⟩
  refine (rsArray_getElem _ k).trans ?_
  rw [getD_append_of_le (by omega), List.getD_eq_getElem?_getD, List.getElem?_drop, Nat.add_sub_cancel' (by omega)]
  simpa using (hrest k hk).2

theorem State.RsOk.exec {s t : State} {i : Instr} (hs : s.RsOk) (h : exec i s = .next t) : t.RsOk := by
  cases i with
  | clr => cases h; exact State.rsOk_of_clear rfl rfl rfl
  | rsChien a =>
    refine hs.settle h (.bind fun L hchien => .ok ?_)
    obtain ⟨hL, h0, hlen⟩ := chien_locations hchien
    exact State.rsOk_of_arrays rfl rfl rfl hlen (Nat.zero_le _) hL h0
  | rsForney a =>
    refine hs.settle h (.bind fun M hM => .ok ?_)
    obtain ⟨hL, h0, -⟩ := id hs
    exact hs.setMagnitudes ((forney_length hL h0 hM).trans (take_toList_length ..))
  | rsDecode =>
    refine hs.settle h (.bind fun n _ => .bind fun twoS _ => .bind fun a _ => ?_)
    cases syndrome (norm (s.cwRead a n)) twoS with
    | mk S noError =>
      cases noError
      · refine .bind fun ⟨σ, ω⟩ _ => .bind fun L hchien => .bind fun M hM => .bind fun ps _ => .ok ?_
        obtain ⟨hL, h0, hlen⟩ := chien_locations hchien
        exact State.rsOk_of_arrays rfl rfl rfl hlen (Nat.le_of_eq (forney_length hL h0 hM)) hL h0
      · exact .ok (State.rsOk_of_arrays (L := []) rfl rfl rfl (Nat.zero_le _) (Nat.le_refl _) .nil (by simp))
  | _ => exact hs.of_same ((exec_writes h).rs rfl)

/-- Settles O14: the four instructions that write the arrays fill them from distinct nonzero locations or clear them. -/
theorem errorLocationsStayDistinct : Obligations.ErrorLocationsStayDistinct := by
  intro s t hs h
  refine step_keeps (fun s t hs hm => ?host) (fun _ _ _ hs _ _ => hs.exec) (fun s e hs => ?fail) hs h
  case host =>
    cases hm with
    | keeps h => exact hs.of_same ⟨h.errCnt, h.errLoc, h.errMag⟩
    | issues w r hidle h => exact hs.of_same ⟨h.errCnt, h.errLoc, h.errMag⟩
    | resets => exact State.rsOk_of_clear rfl rfl rfl
  case fail =>
    unfold State.fetchFail
    split <;> exact hs.of_same (.refl s)

/-! ### Whole-machine rules -/

theorem SameShell.epoch {s t : State} (h : SameShell s t) : t.epoch = s.epoch := by
  obtain ⟨-, -, -, -, -, -, -, -, -, -, hepoch, -⟩ := h
  exact hepoch

/-- Settles O18: what `Writes` says, with the region of the instruction; the results stay where SEG.DECODE goes on. -/
theorem instructionsWriteOnlyTheirState : Obligations.InstructionsWriteOnlyTheirState := by
  intro i s t h
  obtain ⟨hshell, hpr, hrs, hmem, h0, h1⟩ := exec_writes h
  have hexcept := hmem.sameMemExcept hshell.epoch
  refine ⟨hshell, hpr, hrs, fun a ha => hexcept a (mt And.left ha), fun hi hseg hactive a ha => hexcept a fun hr => ?_,
    h0, h1, fun hactive => ?_⟩
  · exact ha (segmentMayWrite_of_reach hseg hactive (hr.2 hi))
  · cases exec_runs h with
    | completes u => cases hactive
    | raises e => cases hactive
    | fails e out => cases hactive
    | starts => exact .refl s
    | records m count pos out => rw [State.segRecord_eq]; exact ⟨by simp, by simp⟩
    | designates => exact .refl s

/-- Settles O19: a command raises its error in the state it was issued in; a mode indicator has written OUTBUF only. -/
theorem errorWritesOnlyStatus : Obligations.ErrorWritesOnlyStatus := by
  intro i s t hs h herr
  have hruns := exec_runs h
  cases hi : i.isMode with
  | false =>
    cases hruns with
    | completes u => cases herr
    | raises e => exact ⟨e, s.raise_failedClean e⟩
    | starts => cases hs.symm.trans herr
    | fails _ _ hm | records _ _ _ _ hm | designates _ _ hm => cases hi.symm.trans hm
  | true =>
    cases hruns with
    | completes u => cases herr
    | raises e hm => cases hi.symm.trans hm
    | starts => cases hs.symm.trans herr
    | fails e out =>
      refine ⟨e, by simp [Failed, SameShell], rfl, rfl, by simp [SameRs], by simp [SamePR], fun a ha => ?_⟩
      refine (State.readByte_congr rfl rfl a).trans (s.writeBytes_sameMemExcept _ out a fun hx => ha ?_)
      exact hx.1
    | records m count pos out =>
      rw [State.segRecord_eq] at herr
      cases hs.symm.trans (by simpa using herr)
    | designates => cases hs.symm.trans herr

end Sys2Proof.Machine
end

section
/-! SUPPORT. The host's accesses: bus errors, reads and writes while IDLE and while BUSY, STATUS, WAIT and RST
(10_state.md section 4, 20_memory.md section 2, 70_reset_and_hazards.md). -/

namespace Sys2Proof.Machine

/-! ### One access -/

theorem State.takeAccess_idle {s : State} (hi : s.seq = .idle) (rest : List HostOp) :
    State.countAccess { s with hostQueue := rest } = { s with hostQueue := rest } := State.countAccess_idle hi

theorem State.takeAccess_busy {s : State} (hb : s.seq = .busy) (rest : List HostOp) :
    State.countAccess { s with hostQueue := rest } = { s with hostQueue := rest, busyLeft := s.busyLeft - 1 } := by
  rw [State.countAccess, if_pos hb]

/-- While IDLE a read answers the value of its place, and only the reply and the queue change (R71). -/
theorem step_read_idle {s : State} {w : Width} {off : Offset} {rest : List HostOp} {p : Place} (hi : s.seq = .idle)
    (hp : place w off = some p) (hq : s.hostQueue = .read w off :: rest) :
    step s = .next { s with hostQueue := rest, reply := some { busError := false, data := s.valueAt w p } } := by
  have hvalue : State.valueAt { s with hostQueue := rest } w p = s.valueAt w p := by cases p <;> rfl
  rw [step_access hq rfl (State.hostMayMove_idle hi), State.hostStep, State.takeAccess_idle hi]
  rw [State.hostRead_idle (s := { s with hostQueue := rest }) hp hi, hvalue]

/-- While IDLE with RST released a write has the effect of its place. -/
theorem step_write_idle {s : State} {w : Width} {off : Offset} {data : Word} {rest : List HostOp} {p : Place}
    (hr : s.rst = false) (hi : s.seq = .idle) (hp : place w off = some p) (hq : s.hostQueue = .write w off data :: rest) :
    step s = .next { ({ s with hostQueue := rest } : State).writePlace w data p with reply := some writeReply } := by
  rw [step_access hq rfl (State.hostMayMove_idle hi), State.hostStep, State.takeAccess_idle hi]
  exact congrArg _ (State.hostWrite_idle (s := { s with hostQueue := rest }) hr hp hi)

theorem step_access_busy {s : State} {op : HostOp} {rest : List HostOp} (hb : s.seq = .busy) (hl : s.busyLeft ≠ 0)
    (hq : s.hostQueue = op :: rest) (ha : op.isAccess = true) : step s = .next (s.hostStep op rest) :=
  step_access hq ha ((State.hostMayMove_busy hb).2 hl)

/-! ### Bus errors -/

/-- Settles O53: the map answers nothing exactly there, and an access it answers nothing for only takes its reply. -/
theorem busErrorsChangeNothing : Obligations.BusErrorsChangeNothing := by
  refine ⟨place_eq_none_iff, fun s w off data rest hm hq hp => ?_⟩
  obtain hq | hq := hq
  · rw [step_access hq rfl hm]
    exact congrArg _ (State.hostRead_none hp)
  · rw [step_access hq rfl hm]
    exact congrArg _ (State.hostWrite_none hp)

/-! ### Reads while IDLE -/

theorem place_registers {off : Offset} {p : Place} (h : (off.toNat, p) ∈ registerPlaces) : place .w32 off = some p := by
  refine (place_eq_some_iff _ _ _).2 ⟨?_, .register rfl h⟩
  simp only [registerPlaces, List.mem_cons, Prod.mk.injEq, List.not_mem_nil, or_false] at h
  simp only [Width.bytes]
  omega

/-- What a read of each register shows, in the order of the map (R29). -/
theorem State.registerValue {s : State} {a : Nat} {v : Word}
    (h : (a, v) ∈ [(0x00, s.curCmd), (0x04, s.statusWord), (0x08, if s.ie then 1#32 else 0#32), (0x0C, 0x51524631#32),
      (0x10, s.arg0), (0x14, s.arg1), (0x18, s.arg2), (0x1C, s.res0), (0x20, s.res1), (0x24, s.errCnt.setWidth 32)]) :
    ∃ p, (a, p) ∈ registerPlaces ∧ s.valueAt .w32 p = v := by
  have hvalues : [(0x00, s.curCmd), (0x04, s.statusWord), (0x08, if s.ie then 1#32 else 0#32), (0x0C, 0x51524631#32),
      (0x10, s.arg0), (0x14, s.arg1), (0x18, s.arg2), (0x1C, s.res0), (0x20, s.res1), (0x24, s.errCnt.setWidth 32)]
      = registerPlaces.map fun r => (r.1, s.valueAt .w32 r.2) := rfl
  rw [hvalues, List.mem_map] at h
  obtain ⟨⟨b, p⟩, hp, heq⟩ := h
  cases heq
  exact ⟨p, hp, rfl⟩

/-- A place that a write leaves alone (R29). -/
def Place.readOnly : Place → Prop
  | .id | .res0 | .res1 | .errCnt | .errLoc _ | .errMag _ | .outbuf _ | .segtab _ => True
  | _ => False

theorem State.writePlace_readOnly {p : Place} (h : p.readOnly) (s : State) (w : Width) (data : Word) :
    s.writePlace w data p = s := by
  cases p with
  | cmd | status | ctrl | arg0 | arg1 | arg2 | cwbuf => exact h.elim
  | _ => rfl

theorem step_write_readOnly {s : State} {w : Width} {off : Offset} {data : Word} {rest : List HostOp} {p : Place}
    (hi : s.seq = .idle) (hp : place w off = some p) (hro : p.readOnly) (hq : s.hostQueue = .write w off data :: rest) :
    step s = .next { s with hostQueue := rest, reply := some { busError := false, data := 0#32 } } := by
  obtain hr | hr := Bool.eq_false_or_eq_true s.rst
  · rw [step_access hq rfl (State.hostMayMove_idle hi), State.hostStep, State.takeAccess_idle hi]
    exact congrArg _ (State.hostWrite_held (s := { s with hostQueue := rest }) hr hp hi)
  · rw [step_write_idle hr hi hp hq, State.writePlace_readOnly hro]
    rfl

/-- Settles O54: the map read forwards, and the value each place shows. -/
theorem idleReadsHaveNoSideEffect : Obligations.IdleReadsHaveNoSideEffect := by
  refine ⟨fun w off => ⟨fun p hp => place_registers hp, fun halign => ?map⟩, fun s rest off v hi hv hq => ?register,
    fun s w off rest p hi hp hoff hq => ?window, fun s w off data rest p hi hp => ⟨fun hq => ?read, fun hq hro => ?write⟩⟩
  case map =>
    exact ⟨fun h h' => (place_eq_some_iff _ _ _).2 ⟨halign, .errLoc h h'⟩,
      fun h h' => (place_eq_some_iff _ _ _).2 ⟨halign, .errMag h h'⟩,
      fun h h' => (place_eq_some_iff _ _ _).2 ⟨halign, .cwbuf h h'⟩,
      fun h h' => (place_eq_some_iff _ _ _).2 ⟨halign, .outbuf h h'⟩,
      fun h h' => (place_eq_some_iff _ _ _).2 ⟨halign, .segtab h h'⟩⟩
  case register =>
    obtain ⟨p, hp, rfl⟩ := State.registerValue hv
    exact step_read_idle hi (place_registers hp) hq
  case window =>
    obtain ⟨-, hreach⟩ := (place_eq_some_iff _ _ _).1 hp
    obtain ⟨bs, hlen, hvalue, hbytes⟩ := State.valueAt_eq (s := s) hreach hoff
    refine ⟨_, step_read_idle hi hp hq, ?_, fun j hj => ?_⟩
    · rw [hvalue, ofNat_fromLittleEndian_toNat hlen, ← hlen]
      exact fromLittleEndian_lt bs
    · rw [hvalue, ofNat_fromLittleEndian_toNat hlen, fromLittleEndian_digit, hbytes j hj]
  case read => exact step_read_idle hi hp hq
  case write =>
    refine step_write_readOnly hi hp ?_ hq
    obtain hreg | ⟨k, rfl | rfl | rfl | rfl⟩ := hro
    · simp only [List.mem_cons, List.not_mem_nil, or_false] at hreg
      obtain rfl | rfl | rfl | rfl := hreg <;> trivial
    all_goals trivial

/-! ### CWBUF -/

/-- Settles O55: a write stores the datum's low bytes in rising order, and a read puts bytes together the same way. -/
theorem cwbufIsLittleEndian : Obligations.CwbufIsLittleEndian := by
  intro s w off data rest hr hi hp
  refine ⟨fun hq => ⟨_, step_write_idle hr hi hp hq, fun j hj => ?stored, fun a ha => ?frame, ?rest⟩, fun j hj => ?read⟩
  case stored =>
    refine (State.readByte_writeBytes { s with hostQueue := rest } off.toNat (off.toNat + j) _).trans ?_
    rw [littleEndian_length, if_pos (by omega), Nat.add_sub_cancel_left, littleEndian_getD _ _ _ hj]
  case frame =>
    refine (State.readByte_writeBytes { s with hostQueue := rest } off.toNat a _).trans ?_
    rw [littleEndian_length, if_neg ha]
    rfl
  case rest =>
    simp only [State.writePlace, writeReply]
    rw [State.writeBytes_eq]
  case read =>
    have hlen := s.readBytes_length off.toNat w.bytes
    have hlt := fromLittleEndian_lt (s.readBytes off.toNat w.bytes)
    rw [hlen] at hlt
    rw [State.valueAt, ofNat_fromLittleEndian_toNat hlen, fromLittleEndian_digit, s.readBytes_getD _ hj]
    exact ⟨rfl, hlt⟩

/-! ### Writes -/

/-- Settles O56: the effects of a write to CMD and to the three operand registers. -/
theorem issueLatchesWordAndOperands : Obligations.IssueLatchesWordAndOperands := by
  intro s data rest hr hi
  refine ⟨fun hq => ⟨_, step_write_idle hr hi (p := .cmd) rfl hq, ?_⟩, fun hq => ?_, fun hq => ?_, fun hq => ?_⟩
  · exact ⟨rfl, rfl, rfl, rfl, rfl, rfl, rfl, rfl, rfl, rfl, rfl, rfl, rfl, rfl, rfl, .refl s, .refl s, .refl s, .refl s,
      rfl, rfl⟩
  · exact step_write_idle hr hi (p := .arg0) rfl hq
  · exact step_write_idle hr hi (p := .arg1) rfl hq
  · exact step_write_idle hr hi (p := .arg2) rfl hq

/-- Settles O57: while BUSY a write to CMD sets OVR and any other is dropped. -/
theorem writesWhileBusyAreDropped : Obligations.WritesWhileBusyAreDropped := by
  intro s w off data rest p hb hl hq hp
  rw [step_access_busy hb hl hq rfl, State.hostStep, State.takeAccess_busy hb]
  rw [State.hostWrite_busy (s := { s with hostQueue := rest, busyLeft := s.busyLeft - 1 }) hp hb]
  cases p with
  | cmd => simp [State.writePlaceBusy, writeReply]
  | _ => simp [State.writePlaceBusy, writeReply]

/-! ### STATUS -/

theorem ite_eq_mul_toNat (b : Bool) (n : Nat) : (if b = true then n else 0) = n * b.toNat := by cases b <;> simp

/-- The number STATUS reads as, field by field (R31). -/
theorem State.statusWord_toNat (s : State) : s.statusWord.toNat
    = (decide (s.seq = .busy)).toNat + 2 * s.done.toNat + 4 * s.err.toNat + 8 * s.ovr.toNat + s.errCode.toNat * 256
      + s.errDetail.toNat * 4096 := by
  have hcode : s.errCode.toNat < 16 := s.errCode.isLt
  have hdetail : s.errDetail.toNat < 16 := s.errDetail.isLt
  have hbusy : (decide (s.seq = .busy)).toNat ≤ 1 := Bool.toNat_le _
  have hdone := s.done.toNat_le
  have herr := s.err.toNat_le
  have hovr := s.ovr.toNat_le
  have hseq : (if s.seq = .busy then 1 else 0) = (decide (s.seq = .busy)).toNat := by split <;> simp [*]
  rw [State.statusWord, hseq, ite_eq_mul_toNat, ite_eq_mul_toNat, ite_eq_mul_toNat, BitVec.toNat_ofNat]
  omega

/-- A bit of a word is the digit of its number there. -/
theorem getLsbD_of_digit {w : Word} {i : Nat} {b : Bool} (h : w.toNat / 2 ^ i % 2 = b.toNat) : w.getLsbD i = b := by
  rw [BitVec.getLsbD, Nat.testBit_eq_decide_div_mod_eq, h]
  cases b <;> rfl

/-- Settles O59: the fields of STATUS, the two writes and the interrupt level. -/
theorem statusControlAndInterrupt : Obligations.StatusControlAndInterrupt := by
  intro s
  refine ⟨?fields, ?irq, fun data rest hr hi => ⟨fun hq => ?status, fun hq => ?ctrl⟩⟩
  case fields =>
    have hcode : s.errCode.toNat < 16 := s.errCode.isLt
    have hdetail : s.errDetail.toNat < 16 := s.errDetail.isLt
    have hbusy : (decide (s.seq = .busy)).toNat ≤ 1 := Bool.toNat_le _
    have hdone := s.done.toNat_le
    have herr := s.err.toNat_le
    have hovr := s.ovr.toNat_le
    have hword := s.statusWord_toNat
    exact ⟨getLsbD_of_digit (by omega), getLsbD_of_digit (by omega), getLsbD_of_digit (by omega),
      getLsbD_of_digit (by omega), by omega, by omega, by omega, by omega⟩
  case irq => exact Bool.and_eq_true_iff
  case status =>
    have hclear : ∀ x b : Bool, (x && !b) = if b then false else x := by decide
    rw [step_write_idle hr hi (p := .status) rfl hq]
    simp only [State.writePlace, State.clearStatus, hclear, writeReply]
  case ctrl => exact step_write_idle hr hi (p := .ctrl) rfl hq

/-! ### Reads while BUSY -/

/-- While BUSY a read answers the draw of its place where it has one, else its value (R333). -/
theorem State.hostRead_busy {s : State} {w : Width} {off : Offset} {p : Place} (hp : place w off = some p)
    (hb : s.seq = .busy) : s.hostRead w off = { s with
      draws := if (drawnAt (Config.readDraw s.draws) w p).isSome then s.draws + 1 else s.draws
      reply := some { busError := false, data := (drawnAt (Config.readDraw s.draws) w p).getD (s.valueAt w p) } } := by
  cases hd : drawnAt (Config.readDraw s.draws) w p with
  | none => simp [State.hostRead, hp, hb, hd]
  | some v => simp [State.hostRead, hp, hb, hd]

theorem step_read_busy {s : State} {w : Width} {off : Offset} {rest : List HostOp} {p : Place} (hb : s.seq = .busy)
    (hl : s.busyLeft ≠ 0) (hp : place w off = some p) (hq : s.hostQueue = .read w off :: rest) :
    step s = .next { s with
      busyLeft := s.busyLeft - 1, hostQueue := rest
      draws := if (drawnAt (Config.readDraw s.draws) w p).isSome then s.draws + 1 else s.draws
      reply := some { busError := false, data := (drawnAt (Config.readDraw s.draws) w p).getD (s.valueAt w p) } } := by
  have hvalue : State.valueAt { s with hostQueue := rest, busyLeft := s.busyLeft - 1 } w p = s.valueAt w p := by
    cases p <;> rfl
  rw [step_access_busy hb hl hq rfl, State.hostStep, State.takeAccess_busy hb,
    State.hostRead_busy (s := { s with hostQueue := rest, busyLeft := s.busyLeft - 1 }) hp hb, hvalue]

/-- A read of STATUS while BUSY shows BUSY and OVR (R333). -/
theorem State.statusWord_busy {s : State} (hs : s.StatusOk) (hb : s.seq = .busy) :
    s.statusWord = if s.ovr then 0x9#32 else 0x1#32 := by
  obtain ⟨hbusy, hnone, -⟩ := hs
  obtain ⟨hdone, herr⟩ := hbusy hb
  obtain ⟨hcode, hdetail⟩ := hnone herr
  rw [State.statusWord, hb, hdone, herr, hcode, hdetail]
  cases s.ovr <;> rfl

/-- A narrow draw keeps as many bits as the access is wide. -/
theorem ofNat_mod_bytes_toNat (d : Word) (w : Width) :
    (BitVec.ofNat 32 (d.toNat % 256 ^ w.bytes)).toNat = d.toNat % 256 ^ w.bytes := by
  rw [BitVec.toNat_ofNat]
  exact Nat.mod_eq_of_lt (Nat.lt_of_le_of_lt (Nat.mod_le _ _) d.isLt)

theorem and_low_byte_toNat (d : Word) : (d &&& 0xFF#32).toNat = d.toNat % 256 := by
  rw [BitVec.toNat_and]
  exact Nat.and_two_pow_sub_one_eq_mod d.toNat 8

/-- Only a word access reaches a register (R63), and what it reads has 32 bits. -/
theorem word_of_register {w : Width} {off : Offset} {p : Place} (hp : place w off = some p)
    (h : p ∈ registerPlaces.map Prod.snd) (v : Word) : v.toNat < 256 ^ w.bytes := by
  obtain ⟨-, hreach⟩ := (place_eq_some_iff _ _ _).1 hp
  cases hreach with
  | register hw => subst hw; exact v.isLt
  | _ => simp [registerPlaces] at h

/-- Settles O58: the draw or the true value of each place. -/
theorem readsWhileBusy : Obligations.ReadsWhileBusy := by
  intro s w off rest p hs hb hl hq hp
  refine ⟨_, step_read_busy hb hl hp hq, _, rfl, ?_, ?_⟩
  · cases p with
    | cmd | status | ctrl | id | arg0 | arg1 | arg2 | res0 | res1 | errCnt =>
      exact word_of_register hp (by simp [registerPlaces]) _
    | _ =>
      simp only [drawnAt, Option.getD_some, ofNat_mod_bytes_toNat]
      exact Nat.mod_lt _ (Nat.pow_pos (by decide))
  · cases p with
    | status => exact ⟨State.statusWord_busy hs hb, rfl⟩
    | cmd | ctrl | id | arg0 | arg1 | arg2 | res0 | res1 => exact ⟨rfl, rfl⟩
    | errCnt => exact ⟨and_low_byte_toNat _, rfl⟩
    | _ => exact ⟨ofNat_mod_bytes_toNat _ w, rfl⟩

/-! ### WAIT -/

/-- Settles O60: one read of STATUS, which stays first in the queue while it shows BUSY. -/
theorem waitPollsUntilIdle : Obligations.WaitPollsUntilIdle := by
  intro s rest hq hm
  refine ⟨_, step_access hq rfl hm, rfl, rfl, rfl, fun hb => ?_⟩
  have hleft : s.busyLeft ≠ 0 := (State.hostMayMove_busy hb).1 hm
  change (if s.seq = .busy then s.busyLeft - 1 else s.busyLeft) < s.busyLeft
  rw [if_pos hb]
  omega

/-! ### RST -/

/-- While RST is asserted an access takes its reply and changes nothing else (R321; log 6). -/
theorem step_access_held {s : State} {op : HostOp} {rest : List HostOp} (hs : s.HeldOk) (hr : s.rst = true)
    (hq : s.hostQueue = op :: rest) (ha : op.isAccess = true) :
    ∃ r, step s = .next { s with hostQueue := rest, reply := some r }
      ∧ ∀ w off data, op = .write w off data → r = { busError := decide (place w off = none), data := 0#32 } := by
  have hi := State.idle_of_held hs hr
  rw [step_access hq ha (State.hostMayMove_idle hi)]
  cases op with
  | rst | pass => cases ha
  | wait =>
    simp only [State.hostStep, State.takeAccess_idle hi]
    exact ⟨_, congrArg _ (by simp [State.hostWait, hi]; rfl), nofun⟩
  | read w off =>
    simp only [State.hostStep, State.takeAccess_idle hi]
    cases hp : place w off with
    | none => exact ⟨_, congrArg _ (State.hostRead_none hp), nofun⟩
    | some p => exact ⟨_, congrArg _ (State.hostRead_idle (s := { s with hostQueue := rest }) hp hi), nofun⟩
  | write w off data =>
    simp only [State.hostStep, State.takeAccess_idle hi]
    cases hp : place w off with
    | none =>
      exact ⟨_, congrArg _ (State.hostWrite_none hp), fun _ _ _ h => by cases h; simp [busErrorReply, hp]⟩
    | some p =>
      exact ⟨_, congrArg _ (State.hostWrite_held (s := { s with hostQueue := rest }) hr hp hi),
        fun _ _ _ h => by cases h; simp [writeReply, hp]⟩

theorem State.HeldOk.of_released {s : State} (h : s.rst = false) : s.HeldOk := fun hr => by cases h.symm.trans hr

theorem State.writePlace_rst (s : State) (w : Width) (data : Word) (p : Place) : (s.writePlace w data p).rst = s.rst := by
  cases p with
  | cwbuf a => exact State.writeBytes_rst ..
  | _ => rfl

theorem State.hostRead_rst (s : State) (w : Width) (off : Offset) : (s.hostRead w off).rst = s.rst := by
  unfold State.hostRead
  split
  · rfl
  · split <;> rfl

theorem State.hostWrite_rst (s : State) (w : Width) (off : Offset) (data : Word) :
    (s.hostWrite w off data).rst = s.rst := by
  cases hp : place w off with
  | none => rw [State.hostWrite_none hp]
  | some p =>
    cases hs : s.seq with
    | busy => rw [State.hostWrite_busy hp hs]; cases p <;> rfl
    | idle =>
      obtain hr | hr := Bool.eq_false_or_eq_true s.rst
      · rw [State.hostWrite_held hr hp hs]
      · rw [State.hostWrite_idle hr hp hs]; exact State.writePlace_rst ..

/-- Only RST itself changes the level of RST. -/
theorem State.hostStep_rst_of_access {s : State} {op : HostOp} (rest : List HostOp) (ha : op.isAccess = true) :
    (s.hostStep op rest).rst = s.rst := by
  cases op with
  | rst | pass => cases ha
  | wait => rfl
  | read w off => exact State.hostRead_rst ..
  | write w off data => exact State.hostWrite_rst ..

theorem sequencerStep_rst {s t : State} (h : sequencerStep s = .next t) : t.rst = s.rst := by
  obtain ⟨-, rfl⟩ | ⟨-, i, -, hi⟩ | ⟨-, e, -, rfl⟩ := sequencerStep_cases h
  · rfl
  · obtain ⟨-, -, -, -, -, -, -, -, -, hrst, -⟩ := (exec_writes hi).shell
    exact hrst
  · unfold State.fetchFail; split <;> rfl

/-- Every step keeps the values RST holds. -/
theorem State.HeldOk.step {s t : State} (hs : s.HeldOk) (h : step s = .next t) : t.HeldOk := by
  obtain ⟨op, rest, hq, hpass, ha, rfl⟩ | ⟨u, hu, hseq⟩ := step_cases h
  · cases op with
    | pass => exact absurd rfl hpass
    | rst asserted =>
      change (State.setRst { s with hostQueue := rest } asserted).HeldOk
      cases asserted with
      | false => exact .of_released (by rw [State.setRst_false])
      | true =>
        obtain hr | hr := Bool.eq_false_or_eq_true s.rst
        · rw [State.setRst_held (s := { s with hostQueue := rest }) hr]; exact fun _ => by rw [hs hr]
        · rw [State.setRst_true (s := { s with hostQueue := rest }) hr]; exact fun _ => rfl
    | _ =>
      obtain hr | hr := Bool.eq_false_or_eq_true s.rst
      · obtain ⟨r, hstep, -⟩ := step_access_held hs hr hq rfl
        rw [h] at hstep
        rw [Host.Outcome.next.inj hstep]
        exact fun _ => by rw [hs hr]
      · exact .of_released ((State.hostStep_rst_of_access rest rfl).trans hr)
  · have hu' : u.rst = s.rst := by obtain rfl | ⟨rest, -, rfl⟩ := hu <;> rfl
    obtain hr | hr := Bool.eq_false_or_eq_true s.rst
    · have hu_seq : u.seq = s.seq := by obtain rfl | ⟨rest, -, rfl⟩ := hu <;> rfl
      rw [sequencerStep, hu_seq, State.idle_of_held hs hr] at hseq
      cases hseq
      obtain rfl | ⟨rest, -, rfl⟩ := hu
      · exact hs
      · exact fun _ => by rw [hs hr]
    · exact .of_released (((sequencerStep_rst hseq).trans hu').trans hr)

/-- Settles O17: the assertion from any state, the levels that change nothing, and the state every step holds. -/
theorem resetAbandonsTheCommand : Obligations.ResetAbandonsTheCommand := by
  refine ⟨fun s rest hr hq => ?assert, fun s rest hr hq => ?again, fun s t hs h => hs.step h,
    fun s op rest hs hr hq ha => step_access_held hs hr hq ha, fun s rest hs hr hq => ?release⟩
  case assert =>
    exact ⟨_, (step_rst hq).trans (congrArg _ (State.setRst_true (s := { s with hostQueue := rest }) hr)), rfl, fun a => rfl,
      by simp [State.statusWord], rfl⟩
  case again => exact (step_rst hq).trans (congrArg _ (State.setRst_held (s := { s with hostQueue := rest }) hr))
  case release =>
    rw [step_rst hq, State.setRst_false, hs hr]
    rfl

end Sys2Proof.Machine
end

section
/-! SUPPORT. GF(256): the tables by repeated doubling, the product by logarithms as the reduced carry-less product, the field
laws, and Forney's magnitudes (40_gf256.md, 00_scope.md R2, 42_reed_solomon.md R193). -/

namespace Sys2Proof.Machine

/-! ### The tables -/

/-- Settles O21: the printed tables, entry by entry. -/
theorem tablesFollowTheDoublingRule : Obligations.TablesFollowTheDoublingRule := by
  refine ⟨fun i hi => ?_, fun a ha => ⟨logTable_lt a, gfExp_logTable ha⟩, fun i hi => ?_, by decide +kernel⟩
  · have hall : ∀ i < 256, (gfExp i).toNat = alphaPow i := by decide +kernel
    exact hall i (by omega)
  · rw [logTable_gfExp (by omega), Nat.mod_eq_of_lt hi]

theorem gfExp_toNat {i : Nat} (h : i < 256) : (gfExp i).toNat = alphaPow i :=
  tablesFollowTheDoublingRule.1 i (by omega)

/-! ### The reduced product -/

theorem double_lt {x : Nat} (h : x < 256) : double x < 256 := by revert x; decide +kernel

/-- Doubling is shifting, and the primitive polynomial takes the ninth bit away (R121). -/
theorem double_eq {x : Nat} : double x = 2 * x ^^^ if x < 128 then 0 else 0x11D := by
  unfold double
  by_cases h : x < 128
  · rw [if_pos (by omega), if_pos h, Nat.xor_zero]
  · rw [if_neg (by omega), if_neg h]

theorem lt_128_iff_testBit {x : Nat} (h : x < 256) : x < 128 ↔ x.testBit 7 = false := by
  rw [Nat.testBit_eq_decide_div_mod_eq, decide_eq_false_iff_not]
  omega

theorem double_xor {x y : Nat} (hx : x < 256) (hy : y < 256) : double (x ^^^ y) = double x ^^^ double y := by
  have hxy : x ^^^ y < 256 := Nat.xor_lt_two_pow (n := 8) hx hy
  have hbit : (if x ^^^ y < 128 then 0 else 0x11D) = (if x < 128 then 0 else 0x11D) ^^^ (if y < 128 then 0 else 0x11D) := by
    simp only [lt_128_iff_testBit hxy, lt_128_iff_testBit hx, lt_128_iff_testBit hy, Nat.testBit_xor]
    cases x.testBit 7 <;> cases y.testBit 7 <;> rfl
  have hshift : 2 * (x ^^^ y) = 2 * x ^^^ 2 * y := by
    have h := Nat.shiftLeft_xor_distrib (i := 1) (a := x) (b := y)
    simpa [Nat.shiftLeft_eq, Nat.mul_comm] using h
  rw [double_eq, double_eq, double_eq, hshift, hbit]
  ac_rfl

theorem reducedProduct_lt {k a : Nat} (b : Nat) (ha : a < 256) : reducedProduct k a b < 256 := by
  induction k generalizing a b with
  | zero => simp [reducedProduct]
  | succ k ih => exact Nat.xor_lt_two_pow (n := 8) (by split <;> omega) (ih _ (double_lt ha))

/-- The reduced product is linear in its second factor. -/
theorem reducedProduct_xor (k a b c : Nat) :
    reducedProduct k a (b ^^^ c) = reducedProduct k a b ^^^ reducedProduct k a c := by
  induction k generalizing a b c with
  | zero => simp [reducedProduct]
  | succ k ih =>
    have hdigit : (if (b ^^^ c) % 2 = 1 then a else 0) = (if b % 2 = 1 then a else 0) ^^^ (if c % 2 = 1 then a else 0) := by
      simp only [Nat.xor_mod_two_eq_one]
      by_cases hb : b % 2 = 1 <;> by_cases hc : c % 2 = 1 <;> simp [hb, hc]
    simp only [reducedProduct]
    rw [hdigit, Nat.xor_div_two, ih]
    ac_rfl

theorem reducedProduct_double_left {k a : Nat} (b : Nat) (ha : a < 256) :
    reducedProduct k (double a) b = double (reducedProduct k a b) := by
  induction k generalizing a b with
  | zero => rfl
  | succ k ih =>
    simp only [reducedProduct]
    rw [double_xor (by split <;> omega) (reducedProduct_lt _ (double_lt ha)), ← ih _ (double_lt ha)]
    split <;> rfl

/-- Bits past the last one of the second factor add nothing. -/
theorem reducedProduct_succ {k a b : Nat} (h : b < 2 ^ k) : reducedProduct (k + 1) a b = reducedProduct k a b := by
  induction k generalizing a b with
  | zero =>
    obtain rfl : b = 0 := by omega
    simp [reducedProduct]
  | succ k ih =>
    rw [reducedProduct, ih (by omega), reducedProduct]

/-- The primitive polynomial, as a factor, reduces to 0 (R2). -/
theorem reducedProduct_primitive {a : Nat} (ha : a < 256) : reducedProduct 9 a 0x11D = 0 := by
  revert a; decide +kernel

theorem reducedProduct_double_right {a b : Nat} (ha : a < 256) (hb : b < 256) :
    reducedProduct 8 a (double b) = double (reducedProduct 8 a b) := by
  have hshift : reducedProduct 9 a (2 * b) = double (reducedProduct 8 a b) := by
    rw [← reducedProduct_double_left b ha, reducedProduct, if_neg (by omega), Nat.zero_xor,
      Nat.mul_div_cancel_left b (by decide)]
  rw [← reducedProduct_succ (double_lt hb), double_eq, reducedProduct_xor, hshift]
  split
  · rw [show reducedProduct 9 a 0 = 0 by simp [reducedProduct], Nat.xor_zero]
  · rw [reducedProduct_primitive ha, Nat.xor_zero]

theorem alphaPow_lt (i : Nat) : alphaPow i < 256 := by
  induction i with
  | zero => decide
  | succ i ih => exact double_lt ih

/-- Powers of the generator multiply by adding exponents. -/
theorem reducedProduct_alphaPow (i j : Nat) : reducedProduct 8 (alphaPow i) (alphaPow j) = alphaPow (i + j) := by
  induction j with
  | zero => simp [alphaPow, reducedProduct]
  | succ j ih => rw [alphaPow, reducedProduct_double_right (alphaPow_lt i) (alphaPow_lt j), ih]; rfl

theorem alphaPow_add_255 (i : Nat) : alphaPow (i + 255) = alphaPow i := by
  induction i with
  | zero => decide +kernel
  | succ i ih => rw [Nat.add_right_comm, alphaPow, ih, alphaPow]

theorem reducedProduct_zero_left (k b : Nat) : reducedProduct k 0 b = 0 := by
  induction k generalizing b with
  | zero => rfl
  | succ k ih => simpa [reducedProduct, double] using ih _

theorem reducedProduct_zero_right (k a : Nat) : reducedProduct k a 0 = 0 := by
  induction k generalizing a with
  | zero => rfl
  | succ k ih => simpa [reducedProduct] using ih _

/-- Settles O23: nonzero elements are powers of the generator, whose exponents add modulo 255. -/
theorem gfMulIsTheReducedProduct : Obligations.GfMulIsTheReducedProduct := by
  intro a b
  by_cases ha : a = 0#8
  · simp [ha, reducedProduct_zero_left]
  by_cases hb : b = 0#8
  · simp [hb, reducedProduct_zero_right]
  have hla := logTable_lt a
  have hlb := logTable_lt b
  have hpow : ∀ x : Byte, x ≠ 0#8 → x.toNat = alphaPow (logTable x) := fun x hx => by
    rw [← gfExp_toNat (by have := logTable_lt x; omega), gfExp_logTable hx]
  rw [gfMul_of_ne_zero ha hb, gfExp_toNat (by omega), hpow a ha, hpow b hb, reducedProduct_alphaPow]
  by_cases hsum : logTable a + logTable b < 255
  · rw [Nat.mod_eq_of_lt hsum]
  · rw [Nat.mod_eq_sub_mod (by omega), Nat.mod_eq_of_lt (by omega), ← alphaPow_add_255, Nat.sub_add_cancel (by omega)]

/-! ### Field laws -/

theorem gfMul_assoc (a b c : Byte) : gfMul (gfMul a b) c = gfMul a (gfMul b c) := by
  by_cases ha : a = 0#8
  · simp [ha]
  by_cases hb : b = 0#8
  · simp [hb]
  by_cases hc : c = 0#8
  · simp [hc]
  rw [gfMul_of_ne_zero (gfMul_ne_zero ha hb) hc, gfMul_of_ne_zero ha (gfMul_ne_zero hb hc), logTable_gfMul ha hb,
    logTable_gfMul hb hc]
  congr 1
  omega

/-- Distributivity is the linearity of the reduced product. -/
theorem gfMul_gfAdd (a b c : Byte) : gfMul a (gfAdd b c) = gfAdd (gfMul a b) (gfMul a c) := by
  apply BitVec.eq_of_toNat_eq
  simp only [gfAdd, BitVec.toNat_xor, gfMulIsTheReducedProduct a, reducedProduct_xor]

theorem gfMul_one_left (a : Byte) : gfMul 1#8 a = a := by revert a; decide +kernel

theorem gfMul_one_right (a : Byte) : gfMul a 1#8 = a := by rw [gfMul_comm, gfMul_one_left]

/-- An inverse multiplies to 1 (R126). -/
theorem gfMul_gfInverse {a : Byte} (ha : a ≠ 0#8) : gfMul a (gfInverse a) = 1#8 := by
  have h := gfMul_gfInv_gfMul (gfInv_of_ne_zero ha) 1#8
  rwa [gfMul_one_left, ← gfInverse, gfMul_comm] at h

/-- Settles O22: associativity by logarithms, distributivity by the reduced product. -/
theorem fieldLaws : Obligations.FieldLaws :=
  ⟨fun a ha => ⟨gfInverse a, gfInv_of_ne_zero ha, gfInverse_ne_zero a, gfMul_gfInverse ha⟩, rfl, rfl, gfMul_comm,
    gfMul_assoc, gfMul_gfAdd⟩

/-! ### Forney's magnitudes -/

/-- Leaving out one entry is going through the indices but its own. -/
theorem eraseIdx_eq_map_getD (L : List Byte) {k : Nat} (h : k < L.length) :
    L.eraseIdx k = ((List.range L.length).filter (· ≠ k)).map fun j => L.getD j 0#8 := by
  induction L generalizing k with
  | nil => simp at h
  | cons X Xs ih =>
    rw [List.length_cons, List.range_succ_eq_map]
    cases k with
    | zero =>
      have hall : ((List.range Xs.length).map Nat.succ).filter (· ≠ 0) = (List.range Xs.length).map Nat.succ := by
        simp [List.filter_eq_self]
      rw [List.filter_cons_of_neg (by simp), hall, List.map_map, List.eraseIdx_cons_zero]
      refine List.ext_getElem (by simp) fun j hj _ => ?_
      simp [hj]
    | succ k =>
      have hk : k < Xs.length := by simpa using h
      rw [List.filter_cons_of_pos (by simp), List.eraseIdx_cons_succ, ih hk, List.map_cons, List.filter_map, List.map_map]
      simp [Function.comp_def]

/-- The denominator as a product over the indices of the other locations. -/
theorem forneyDen_eq_foldl_range (L : List Byte) {k : Nat} (hk : k < L.length) (xinv : Byte) :
    forneyDen L k xinv = ((List.range L.length).filter (· ≠ k)).foldl
      (fun acc j => gfMul acc (1#8 ^^^ gfMul (L.getD j 0#8) xinv)) 1#8 := by
  rw [forneyDen, eraseIdx_eq_map_getD L hk, List.foldl_map]
  rfl

/-- Settles O38: Forney's formula divides by the product, so that multiplying by it gives the evaluator back. -/
theorem forneyGivesTheMagnitudes : Obligations.ForneyGivesTheMagnitudes := by
  intro omega L hL h0
  refine ⟨_, forney_eq_ok omega hL h0, by simp, fun k hk => ?_⟩
  have hLk : L[k] ≠ 0#8 := fun e => h0 (e ▸ List.getElem_mem hk)
  have hden := forneyDen_ne_zero hL h0 hk
  refine ⟨gfInverse (L.getD k 0#8), by rw [getD_of_lt hk]; exact gfMul_gfInverse hLk, ?_⟩
  have hM : ((List.range L.length).map (forneyValue omega L)).getD k 0#8 = forneyValue omega L k := by
    rw [getD_of_lt (by simpa), List.getElem_map, List.getElem_range]
  rw [← getD_of_lt hk] at hden
  rw [hM, forneyValue]
  have hprod := gfMul_gfInv_gfMul (gfInv_of_ne_zero hden) (peval omega (gfInverse (L.getD k 0#8)))
  rw [← gfInverse] at hprod
  rw [forneyDen_eq_foldl_range L hk] at hprod ⊢
  exact hprod

end Sys2Proof.Machine
end

section
/-! SUPPORT. The polynomial functions as operations on coefficients, the product as a convolution, long
division, and evaluation by Horner's method (41_poly.md section 1). -/

namespace Sys2Proof.Machine

/-! ### Coefficients -/

theorem coef_of_length_le {c : List Byte} {d : Nat} (h : c.length ≤ d) : coef c d = 0#8 := by
  rw [coef_eq_reverse_getD, getD_of_le (by rwa [List.length_reverse])]

theorem coef_append (a b : List Byte) (d : Nat) :
    coef (a ++ b) d = if d < b.length then coef b d else coef a (d - b.length) := by
  simp only [coef_eq_reverse_getD, List.reverse_append]
  split
  · exact getD_append_of_lt (by simpa)
  · rw [getD_append_of_le (by simpa using Nat.not_lt.1 ‹_›), List.length_reverse]

theorem coef_singleton (c : Byte) (d : Nat) : coef [c] d = if d = 0 then c else 0#8 := by
  cases d <;> simp [coef, deg]

/-- The first entry is the coefficient of the highest degree. -/
theorem coef_cons (c : Byte) (cs : List Byte) (d : Nat) : coef (c :: cs) d = if d = cs.length then c else coef cs d := by
  rw [← List.singleton_append, coef_append, coef_singleton]
  by_cases h : d < cs.length
  · rw [if_pos h, if_neg (by omega)]
  · rw [if_neg h]
    by_cases hd : d = cs.length
    · rw [if_pos (by omega), if_pos hd]
    · rw [if_neg (by omega), if_neg hd, coef_of_length_le (by omega)]

theorem coef_zero (d : Nat) : coef [0#8] d = 0#8 := by simp [coef_singleton]

theorem coef_replicate_zero (n d : Nat) : coef (List.replicate n 0#8) d = 0#8 := by
  rw [coef_eq_reverse_getD, List.reverse_replicate]
  rcases Nat.lt_or_ge d n with h | h
  · rw [getD_of_lt (by simpa), List.getElem_replicate]
  · exact getD_of_le (by simpa)

theorem coef_map {f : Byte → Byte} (hf : f 0#8 = 0#8) (a : List Byte) (d : Nat) : coef (a.map f) d = f (coef a d) := by
  induction a with
  | nil => simp [coef, hf]
  | cons c cs ih => simp only [List.map_cons, coef_cons, List.length_map, ih, apply_ite f]

theorem coef_zipWith_gfAdd {a b : List Byte} (h : a.length = b.length) (d : Nat) :
    coef (List.zipWith gfAdd a b) d = coef a d ^^^ coef b d := by
  induction a generalizing b with
  | nil =>
    obtain rfl : b = [] := List.eq_nil_of_length_eq_zero h.symm
    simp [coef]
  | cons x xs ih =>
    obtain ⟨y, ys, rfl⟩ := List.exists_cons_of_length_eq_add_one h.symm
    have hl : xs.length = ys.length := by simpa using h
    simp only [List.zipWith_cons_cons, coef_cons, List.length_zipWith, hl, Nat.min_self, ih hl]
    split <;> rfl

/-- The shorter list is added to the end of the longer one. -/
theorem coef_take_append_zipWith {l s : List Byte} (h : s.length ≤ l.length) (d : Nat) :
    coef (l.take (l.length - s.length) ++ List.zipWith gfAdd (l.drop (l.length - s.length)) s) d = coef l d ^^^ coef s d := by
  have hdrop : (l.drop (l.length - s.length)).length = s.length := by rw [List.length_drop]; omega
  have hl := coef_append (l.take (l.length - s.length)) (l.drop (l.length - s.length)) d
  rw [List.take_append_drop, hdrop] at hl
  rw [coef_append, List.length_zipWith, hdrop, Nat.min_self, hl]
  split
  · exact coef_zipWith_gfAdd hdrop d
  · rw [coef_of_length_le (c := s) (by omega), BitVec.xor_zero]

theorem coef_xorAligned (a b : List Byte) (d : Nat) : coef (xorAligned a b) d = coef a d ^^^ coef b d := by
  unfold xorAligned
  split
  · rw [coef_take_append_zipWith (by omega), BitVec.xor_comm]
  · exact coef_take_append_zipWith (by omega) d

theorem coef_padd (a b : Poly) (d : Nat) : coef (padd a b) d = coef a d ^^^ coef b d := by
  unfold padd
  split
  · rw [(isZero_iff a).1 ‹_›, coef_zero, BitVec.zero_xor]
  · split
    · rw [(isZero_iff b).1 ‹_›, coef_zero, BitVec.xor_zero]
    · rw [coef_norm, coef_xorAligned]

theorem coef_mono (n : Nat) (c : Byte) (d : Nat) : coef (mono n c) d = if d = n then c else 0#8 := by
  unfold mono
  split
  · rw [coef_zero]; split <;> simp [*]
  · rw [coef_cons, List.length_replicate, coef_replicate_zero]

theorem coef_pscale (a : Poly) (k : Byte) (d : Nat) : coef (pscale a k) d = gfMul (coef a d) k := by
  unfold pscale
  split
  · simp [*, coef_zero]
  · split
    · simp [*, gfMul_one_right]
    · rw [coef_norm, coef_map (gfMul_zero_left k)]

theorem coef_pshift (a : Poly) (n : Nat) (c : Byte) (d : Nat) :
    coef (pshift a n c) d = if d < n then 0#8 else gfMul (coef a (d - n)) c := by
  unfold pshift
  split
  · simp [*, coef_zero]
  · rw [coef_norm, coef_append, List.length_replicate, coef_replicate_zero, coef_map (gfMul_zero_left c)]

theorem Normalized.norm_eq {c : List Byte} (h : Normalized c) : norm c = c := by
  by_cases h0 : c = [0#8]
  · rw [h0]; rfl
  · obtain ⟨x, xs, rfl, hx⟩ := h.exists_cons h0
    exact norm_cons_of_ne_zero hx xs

/-- Settles O25, from the coefficients of each function. -/
theorem coefficientsOfSumScaleShift : Obligations.CoefficientsOfSumScaleShift :=
  ⟨fun c => ⟨normalized_norm c, Normalized.norm_eq, coef_norm c⟩,
    fun n c d => ⟨normalized_mono n c, coef_mono n c d⟩,
    fun a b d ha hb => ⟨normalized_padd ha hb, coef_padd a b d⟩,
    fun a k d ha => ⟨normalized_pscale ha k, coef_pscale a k d⟩,
    fun a n c d _ => ⟨normalized_pshift a n c, coef_pshift a n c d⟩⟩

/-! ### A normalized list is given by its coefficients -/

theorem Normalized.length_le_of_coef_eq {a b : Poly} (ha : Normalized a) (hb : Normalized b)
    (h : ∀ d, coef a d = coef b d) : b.length ≤ a.length := by
  refine Nat.le_of_not_lt fun hlt => ?_
  have hb0 : b ≠ [0#8] := by
    rintro rfl
    exact absurd ha.1 (Nat.not_le.2 hlt)
  apply hb.coef_deg_ne_zero hb0
  rw [← h, coef_of_length_le (by unfold deg; omega)]

theorem Normalized.eq_of_coef_eq {a b : Poly} (ha : Normalized a) (hb : Normalized b) (h : ∀ d, coef a d = coef b d) :
    a = b := by
  have hl : a.length = b.length :=
    Nat.le_antisymm (hb.length_le_of_coef_eq ha fun d => (h d).symm) (ha.length_le_of_coef_eq hb h)
  refine List.ext_getElem hl fun i hi hi' => ?_
  have hd := h (a.length - 1 - i)
  simp only [coef, deg, hl] at hd
  rwa [if_pos (by omega), if_pos (by omega), getD_of_lt (by omega), getD_of_lt (by omega),
    getElem_congr_idx (show b.length - 1 - (b.length - 1 - i) = i by omega),
    getElem_congr_idx (show b.length - 1 - (b.length - 1 - i) = i by omega)] at hd

/-! ### Sums over degrees -/

theorem xorSum_congr {f g : Nat → Byte} {n : Nat} (h : ∀ i, i < n → f i = g i) : xorSum f n = xorSum g n := by
  induction n with
  | zero => rfl
  | succ n ih => rw [xorSum, xorSum, ih fun i hi => h i (Nat.lt_succ_of_lt hi), h n (Nat.lt_succ_self n)]

theorem xorSum_eq_zero {f : Nat → Byte} {n : Nat} (h : ∀ i, i < n → f i = 0#8) : xorSum f n = 0#8 := by
  induction n with
  | zero => rfl
  | succ n ih => rw [xorSum, ih fun i hi => h i (Nat.lt_succ_of_lt hi), h n (Nat.lt_succ_self n), BitVec.xor_zero]

theorem xorSum_xor (f g : Nat → Byte) (n : Nat) : xorSum (fun i => f i ^^^ g i) n = xorSum f n ^^^ xorSum g n := by
  induction n with
  | zero => exact BitVec.xor_zero.symm
  | succ n ih =>
    simp only [xorSum, ih]
    ac_rfl

theorem gfMul_xor (a b c : Byte) : gfMul a (b ^^^ c) = gfMul a b ^^^ gfMul a c := gfMul_gfAdd a b c

theorem xor_gfMul (a b c : Byte) : gfMul (a ^^^ b) c = gfMul a c ^^^ gfMul b c := by
  rw [gfMul_comm, gfMul_xor, gfMul_comm c a, gfMul_comm c b]

theorem gfMul_xorSum (c : Byte) (f : Nat → Byte) (n : Nat) : gfMul c (xorSum f n) = xorSum (fun i => gfMul c (f i)) n := by
  induction n with
  | zero => exact gfMul_zero_right c
  | succ n ih => rw [xorSum, gfMul_xor, ih, xorSum]

/-- A sum whose first terms are 0 starts after them. -/
theorem xorSum_shift {f : Nat → Byte} {n : Nat} (m : Nat) (h : ∀ i, i < n → f i = 0#8) :
    xorSum f (n + m) = xorSum (fun i => f (n + i)) m := by
  induction m with
  | zero => exact xorSum_eq_zero h
  | succ m ih => rw [← Nat.add_assoc, xorSum, ih, xorSum]

/-- A sum whose last terms are 0 ends before them. -/
theorem xorSum_of_le {f : Nat → Byte} {n m : Nat} (hnm : n ≤ m) (h : ∀ i, n ≤ i → f i = 0#8) : xorSum f m = xorSum f n := by
  induction hnm with
  | refl => rfl
  | step hnm ih => rw [xorSum, ih, h _ hnm, BitVec.xor_zero]

/-! ### Convolution -/

/-- The coefficient of x^k in a product (R148). -/
def convAt (f g : Nat → Byte) (k : Nat) : Byte := xorSum (fun i => gfMul (f i) (g (k - i))) (k + 1)

theorem convAt_xor_left (f f' g : Nat → Byte) (k : Nat) :
    convAt (fun i => f i ^^^ f' i) g k = convAt f g k ^^^ convAt f' g k := by
  simp only [convAt, xor_gfMul, xorSum_xor]

theorem convAt_xor_right (f g g' : Nat → Byte) (k : Nat) :
    convAt f (fun i => g i ^^^ g' i) k = convAt f g k ^^^ convAt f g' k := by
  simp only [convAt, gfMul_xor, xorSum_xor]

theorem convAt_zero_left {f : Nat → Byte} (hf : ∀ i, f i = 0#8) (g : Nat → Byte) (k : Nat) : convAt f g k = 0#8 :=
  xorSum_eq_zero fun i _ => by rw [hf, gfMul_zero_left]

theorem convAt_zero_right (f : Nat → Byte) {g : Nat → Byte} (hg : ∀ i, g i = 0#8) (k : Nat) : convAt f g k = 0#8 :=
  xorSum_eq_zero fun i _ => by rw [hg, gfMul_zero_right]

/-- The coefficients of `c · x^n` times a polynomial. -/
def shiftAt (n : Nat) (c : Byte) (g : Nat → Byte) (k : Nat) : Byte := if k < n then 0#8 else gfMul c (g (k - n))

/-- Multiplying by a monomial is shifting and scaling (R150). -/
theorem convAt_single (n : Nat) (c : Byte) (g : Nat → Byte) (k : Nat) :
    convAt (fun i => if i = n then c else 0#8) g k = shiftAt n c g k := by
  have hzero : ∀ i, i ≠ n → gfMul (if i = n then c else 0#8) (g (k - i)) = 0#8 := fun i hi => by
    rw [if_neg hi, gfMul_zero_left]
  unfold convAt shiftAt
  by_cases h : k < n
  · rw [if_pos h, xorSum_eq_zero fun i hi => hzero i (by omega)]
  · rw [if_neg h, xorSum_of_le (n := n + 1) (by omega) fun i hi => hzero i (by omega), xorSum,
      xorSum_eq_zero fun i hi => hzero i (by omega), if_pos rfl, BitVec.zero_xor]

/-- A shifted factor shifts the product. -/
theorem convAt_shiftAt (n : Nat) (c : Byte) (g h : Nat → Byte) (k : Nat) :
    convAt (shiftAt n c g) h k = shiftAt n c (convAt g h) k := by
  have hzero : ∀ i, i < n → gfMul (shiftAt n c g i) (h (k - i)) = 0#8 := fun i hi => by
    rw [shiftAt, if_pos hi, gfMul_zero_left]
  by_cases hk : k < n
  · rw [shiftAt, if_pos hk, convAt, xorSum_eq_zero fun i hi => hzero i (by omega)]
  · obtain ⟨m, rfl⟩ := Nat.exists_eq_add_of_le (Nat.not_lt.1 hk)
    rw [convAt, Nat.add_assoc, xorSum_shift (m + 1) hzero, shiftAt, if_neg hk, Nat.add_sub_cancel_left, convAt, gfMul_xorSum]
    refine xorSum_congr fun i _ => ?_
    rw [shiftAt, if_neg (by omega), Nat.add_sub_cancel_left, Nat.add_sub_add_left, gfMul_assoc]

/-! ### Coefficients of a product -/

/-- A list is its leading term and the rest. -/
theorem coef_cons_eq_xor (c : Byte) (cs : List Byte) :
    coef (c :: cs) = fun d => (if d = cs.length then c else 0#8) ^^^ coef cs d := by
  funext d
  rw [coef_cons]
  split
  · rw [coef_of_length_le (Nat.le_of_eq (Eq.symm ‹_›)), BitVec.xor_zero]
  · rw [BitVec.zero_xor]

/-- The product with a list, one term of it at a time. -/
theorem convAt_cons (c : Byte) (cs : List Byte) (g : Nat → Byte) (k : Nat) :
    convAt (coef (c :: cs)) g k = shiftAt cs.length c g k ^^^ convAt (coef cs) g k := by
  rw [coef_cons_eq_xor, convAt_xor_left, convAt_single]

theorem coef_nil (d : Nat) : coef [] d = 0#8 := coef_of_length_le (Nat.zero_le d)

/-- The convolution with a list is associative. -/
theorem convAt_assoc (a : List Byte) (g h : Nat → Byte) (k : Nat) :
    convAt (convAt (coef a) g) h k = convAt (coef a) (convAt g h) k := by
  induction a generalizing k with
  | nil => rw [convAt_zero_left coef_nil, convAt_zero_left fun i => convAt_zero_left coef_nil g i]
  | cons c cs ih =>
    have hcons : convAt (coef (c :: cs)) g = fun i => shiftAt cs.length c g i ^^^ convAt (coef cs) g i :=
      funext (convAt_cons c cs g)
    rw [hcons, convAt_xor_left, convAt_shiftAt, ih, convAt_cons]

theorem coef_convolve (a b : List Byte) (k : Nat) : coef (convolve a b) k = convAt (coef a) (coef b) k := by
  induction a with
  | nil => rw [convolve, coef_replicate_zero, convAt_zero_left coef_nil]
  | cons c cs ih =>
    rw [convolve, coef_xorAligned, coef_append, List.length_replicate, coef_replicate_zero, coef_map (gfMul_zero_right c), ih,
      convAt_cons, shiftAt]

theorem coef_pmul (a b : Poly) (k : Nat) : coef (pmul a b) k = convAt (coef a) (coef b) k := by
  unfold pmul
  split
  · rename_i h
    rw [coef_zero]
    obtain h | h := Bool.or_eq_true_iff.1 h
    · rw [(isZero_iff a).1 h, convAt_zero_left coef_zero]
    · rw [(isZero_iff b).1 h, convAt_zero_right _ coef_zero]
  · rw [coef_norm, coef_convolve]

theorem xorAligned_cons {as bs : List Byte} (h : as.length = bs.length) (a : Byte) :
    xorAligned (a :: as) bs = a :: List.zipWith gfAdd as bs := by
  have hlt : ¬ bs.length + 1 < bs.length := by omega
  simp [xorAligned, h, hlt]

/-- The leading coefficients multiply to the leading coefficient, which is not 0 (R148). -/
theorem pmul_cons_cons_length {x y : Byte} (hx : x ≠ 0#8) (hy : y ≠ 0#8) (xs ys : List Byte) :
    (pmul (x :: xs) (y :: ys)).length = xs.length + ys.length + 1 := by
  have hlen := convolve_length xs (y :: ys) (by simp)
  rw [List.length_cons] at hlen
  rw [pmul, if_neg (by simp [isZero, hx, hy]), convolve, List.map_cons, List.cons_append,
    xorAligned_cons (by simp; omega), norm_cons_of_ne_zero (gfMul_ne_zero hx hy)]
  simp
  omega

/-- Settles O26: each coefficient of a product is that of the convolution. -/
theorem coefficientsOfProduct : Obligations.CoefficientsOfProduct := by
  intro a b ha hb
  refine ⟨normalized_pmul a b, coef_pmul a b, fun ha0 hb0 => ?_⟩
  obtain ⟨x, xs, rfl, hx⟩ := ha.exists_cons ha0
  obtain ⟨y, ys, rfl, hy⟩ := hb.exists_cons hb0
  simp [deg, pmul_cons_cons_length hx hy]

/-! ### Sums and products inside a product -/

theorem convAt_padd_left (a b : Poly) (g : Nat → Byte) (k : Nat) :
    convAt (coef (padd a b)) g k = convAt (coef a) g k ^^^ convAt (coef b) g k := by
  rw [funext (coef_padd a b), convAt_xor_left]

theorem convAt_padd_right (f : Nat → Byte) (a b : Poly) (k : Nat) :
    convAt f (coef (padd a b)) k = convAt f (coef a) k ^^^ convAt f (coef b) k := by
  rw [funext (coef_padd a b), convAt_xor_right]

theorem convAt_pmul_left (a b : Poly) (g : Nat → Byte) (k : Nat) :
    convAt (coef (pmul a b)) g k = convAt (coef a) (convAt (coef b) g) k := by
  rw [funext (coef_pmul a b), convAt_assoc]

theorem convAt_pmul_right (f : Nat → Byte) (a b : Poly) (k : Nat) :
    convAt f (coef (pmul a b)) k = convAt f (convAt (coef a) (coef b)) k := by
  rw [funext (coef_pmul a b)]

theorem convAt_mono_left (n : Nat) (c : Byte) (g : Nat → Byte) (k : Nat) :
    convAt (coef (mono n c)) g k = shiftAt n c g k := by
  rw [funext (coef_mono n c), convAt_single]

theorem coef_pshift_eq_shiftAt (a : Poly) (n : Nat) (c : Byte) (d : Nat) : coef (pshift a n c) d = shiftAt n c (coef a) d := by
  rw [coef_pshift, shiftAt, gfMul_comm]

theorem convAt_pscale_left (a : Poly) (c : Byte) (g : Nat → Byte) (k : Nat) :
    convAt (coef (pscale a c)) g k = gfMul (convAt (coef a) g k) c := by
  rw [gfMul_comm, convAt, convAt, gfMul_xorSum]
  refine xorSum_congr fun i _ => ?_
  rw [coef_pscale, gfMul_comm _ c, gfMul_assoc]

/-! ### Division -/

/-- Every pass keeps quotient times divisor plus remainder (R151). -/
theorem coef_pdivLoop (b : Poly) (inv : Byte) (fuel : Nat) {q r q' r' : Poly} (h : pdivLoop b inv fuel q r = (q', r'))
    (d : Nat) : convAt (coef q') (coef b) d ^^^ coef r' d = convAt (coef q) (coef b) d ^^^ coef r d := by
  induction fuel generalizing q r with
  | zero => cases h; rfl
  | succ fuel ih =>
    rw [pdivLoop] at h
    split at h
    · rw [ih h, convAt_padd_left, convAt_mono_left, coef_padd, coef_pshift_eq_shiftAt, BitVec.xor_comm (coef r d),
        BitVec.xor_assoc, ← BitVec.xor_assoc (shiftAt ..), BitVec.xor_self, BitVec.zero_xor]
    · cases h; rfl

theorem coef_pdiv {a b q r : Poly} (h : pdiv a b = .ok (q, r)) (d : Nat) :
    coef a d = convAt (coef q) (coef b) d ^^^ coef r d := by
  unfold pdiv at h
  split at h
  · cases h
  · obtain ⟨inv, -, h⟩ := except_bind_eq_ok.1 h
    rw [coef_pdivLoop b inv _ (Except.ok.inj h), convAt_zero_left coef_zero, BitVec.zero_xor]

/-- Settles O27: every pass keeps quotient times divisor plus remainder, and lowers the remainder's degree. -/
theorem divisionIdentity : Obligations.DivisionIdentity := by
  refine ⟨fun a b ha hb hb0 => ?_, pdiv_zero⟩
  have h := pdiv_of_ne_zero a hb hb0
  have hd := pdiv_bounds ha hb h
  refine ⟨_, _, h, hd.quot_normalized, hd.rem_normalized, ?_, hd.rem_small.symm⟩
  refine ha.eq_of_coef_eq (normalized_padd (normalized_pmul ..) hd.rem_normalized) fun d => ?_
  rw [coef_padd, coef_pmul, coef_pdiv h]

/-! ### Evaluation -/

/-- Horner's method from a value already found. -/
theorem horner_eq (p : List Byte) (x v : Byte) :
    p.foldl (fun v c => gfAdd (gfMul x v) c) v = gfMul v (gfPow x p.length) ^^^ peval p x := by
  induction p generalizing v with
  | nil => exact (gfMul_one_right v).symm.trans BitVec.xor_zero.symm
  | cons c cs ih =>
    rw [peval, List.foldl_cons, List.foldl_cons, ih, ih (gfAdd (gfMul x 0#8) c), gfAdd, gfAdd, xor_gfMul, gfMul_zero_right,
      BitVec.zero_xor, List.length_cons, gfPow, gfMul_comm (gfPow ..) x, ← gfMul_assoc v, gfMul_comm v x, BitVec.xor_assoc]

theorem peval_cons (c : Byte) (cs : List Byte) (x : Byte) :
    peval (c :: cs) x = gfMul c (gfPow x cs.length) ^^^ peval cs x := by
  rw [peval, List.foldl_cons, horner_eq, gfAdd, gfMul_zero_right, BitVec.zero_xor]

theorem peval_nil (x : Byte) : peval [] x = 0#8 := rfl

theorem peval_eq_xorSum (p : List Byte) (x : Byte) :
    peval p x = xorSum (fun k => gfMul (coef p k) (gfPow x k)) p.length := by
  induction p with
  | nil => rfl
  | cons c cs ih =>
    have hrest : xorSum (fun k => gfMul (coef (c :: cs) k) (gfPow x k)) cs.length
        = xorSum (fun k => gfMul (coef cs k) (gfPow x k)) cs.length :=
      xorSum_congr fun k hk => by rw [coef_cons, if_neg (Nat.ne_of_lt hk)]
    rw [peval_cons, ih, List.length_cons, xorSum, hrest, coef_cons, if_pos rfl, BitVec.xor_comm]

/-- Coefficients past the end add nothing. -/
theorem peval_eq_xorSum_of_le {p : List Byte} {n : Nat} (h : p.length ≤ n) (x : Byte) :
    peval p x = xorSum (fun k => gfMul (coef p k) (gfPow x k)) n := by
  rw [peval_eq_xorSum, xorSum_of_le h fun k hk => by rw [coef_of_length_le hk, gfMul_zero_left]]

/-- Evaluation looks at the coefficients only. -/
theorem peval_congr {p q : List Byte} (h : ∀ d, coef p d = coef q d) (x : Byte) : peval p x = peval q x := by
  rw [peval_eq_xorSum_of_le (Nat.le_max_left p.length q.length), peval_eq_xorSum_of_le (Nat.le_max_right p.length q.length)]
  exact xorSum_congr fun k _ => by rw [h]

theorem peval_of_coef_xor {p a b : List Byte} (h : ∀ d, coef p d = coef a d ^^^ coef b d) (x : Byte) :
    peval p x = peval a x ^^^ peval b x := by
  have hp : p.length ≤ p.length + a.length + b.length := by omega
  have ha : a.length ≤ p.length + a.length + b.length := by omega
  have hb : b.length ≤ p.length + a.length + b.length := by omega
  rw [peval_eq_xorSum_of_le hp, peval_eq_xorSum_of_le ha, peval_eq_xorSum_of_le hb, ← xorSum_xor]
  exact xorSum_congr fun k _ => by rw [h, xor_gfMul]

theorem peval_map_gfMul (c : Byte) (b : List Byte) (x : Byte) : peval (b.map (gfMul c)) x = gfMul c (peval b x) := by
  induction b with
  | nil => exact (gfMul_zero_right c).symm
  | cons y ys ih => rw [List.map_cons, peval_cons, peval_cons, List.length_map, ih, gfMul_xor, gfMul_assoc]

/-- Zeros after a list multiply by a power of x. -/
theorem peval_append_zeros (a : List Byte) (n : Nat) (x : Byte) :
    peval (a ++ List.replicate n 0#8) x = gfMul (peval a x) (gfPow x n) := by
  have hzeros : peval (List.replicate n 0#8) x = 0#8 := by
    rw [peval_congr (q := []) fun d => by rw [coef_replicate_zero, coef_nil], peval_nil]
  rw [peval, List.foldl_append, horner_eq, hzeros, BitVec.xor_zero, List.length_replicate, peval]

theorem peval_convolve (a b : List Byte) (x : Byte) : peval (convolve a b) x = gfMul (peval a x) (peval b x) := by
  induction a with
  | nil =>
    rw [peval_nil, gfMul_zero_left, convolve, peval_congr (q := []) fun d => by rw [coef_replicate_zero, coef_nil], peval_nil]
  | cons c cs ih =>
    rw [convolve, peval_of_coef_xor (coef_xorAligned _ _), peval_append_zeros, peval_map_gfMul, ih, peval_cons, xor_gfMul,
      gfMul_assoc, gfMul_assoc, gfMul_comm (peval b x)]

theorem peval_pmul (a b : Poly) (x : Byte) : peval (pmul a b) x = gfMul (peval a x) (peval b x) := by
  rw [← peval_convolve]
  exact peval_congr (fun d => by rw [coef_pmul, coef_convolve]) x

theorem gfPow_one (k : Nat) : gfPow 1#8 k = 1#8 := by
  induction k with
  | zero => rfl
  | succ k ih => rw [gfPow, ih, gfMul_one_left]

theorem peval_zero (p : List Byte) : peval p 0#8 = coef p 0 := by
  induction p with
  | nil => rfl
  | cons c cs ih =>
    rw [peval_cons, ih, coef_cons]
    cases cs with
    | nil => rw [List.length_nil, if_pos rfl, gfPow, gfMul_one_right, coef_nil, BitVec.xor_zero]
    | cons y ys =>
      rw [if_neg (by simp), List.length_cons, gfPow, gfMul_zero_right, gfMul_zero_right, BitVec.zero_xor]

/-- Settles O28: Horner's method gives the sum, which respects sums and products. -/
theorem evaluationLaws : Obligations.EvaluationLaws := by
  refine ⟨fun p x _ => peval_eq_xorSum p x, fun p _ => ⟨peval_zero p, ?_⟩,
    fun a b x _ _ => ⟨peval_of_coef_xor (coef_padd a b) x, peval_pmul a b x⟩⟩
  simp only [peval_eq_xorSum, gfPow_one, gfMul_one_right]

end Sys2Proof.Machine
end

section
/-! SUPPORT. Extended Euclid: the key equation it solves, and the errors it can end with (42_reed_solomon.md R186 to R191,
R202). -/

namespace Sys2Proof.Machine

/-! ### Combinations of the two starting polynomials -/

/-- `r` is `t·B + u·A` for some normalized `u` (R189). -/
def Combination (A B r t : Poly) : Prop := ∃ u, Normalized u ∧ r = padd (pmul t B) (pmul u A)

theorem convAt_one_left (g : Nat → Byte) (d : Nat) : convAt (coef [1#8]) g d = g d := by
  rw [convAt_cons, convAt_zero_left coef_nil, shiftAt, List.length_nil, if_neg (Nat.not_lt_zero d), gfMul_one_left, BitVec.xor_zero]
  rfl

theorem Combination.left {A : Poly} (hA : Normalized A) (B : Poly) : Combination A B A [0#8] := by
  refine ⟨[1#8], by decide, hA.eq_of_coef_eq (normalized_padd (normalized_pmul ..) (normalized_pmul ..)) fun d => ?_⟩
  rw [coef_padd, coef_pmul, coef_pmul, convAt_zero_left coef_zero, convAt_one_left, BitVec.zero_xor]

theorem Combination.right (A : Poly) {B : Poly} (hB : Normalized B) : Combination A B B [1#8] := by
  refine ⟨[0#8], by decide, hB.eq_of_coef_eq (normalized_padd (normalized_pmul ..) (normalized_pmul ..)) fun d => ?_⟩
  rw [coef_padd, coef_pmul, coef_pmul, convAt_zero_left coef_zero, convAt_one_left, BitVec.xor_zero]

/-- A sum solved for one of its terms. -/
theorem eq_xor_of_xor_eq {a b c : Byte} (h : a = b ^^^ c) : c = a ^^^ b := by
  rw [h, BitVec.xor_comm b c, BitVec.xor_assoc, BitVec.xor_self, BitVec.xor_zero]

/-- The remainder of two combinations is one. -/
theorem Combination.pass {A B rLast r tLast t q r' : Poly} (hLast : Combination A B rLast tLast) (h : Combination A B r t)
    (hr' : Normalized r') (hq : pdiv rLast r = .ok (q, r')) : Combination A B r' (padd (pmul q t) tLast) := by
  obtain ⟨uLast, huLast, rfl⟩ := hLast
  obtain ⟨u, -, rfl⟩ := h
  refine ⟨padd (pmul q u) uLast, normalized_padd (normalized_pmul q u) huLast,
    hr'.eq_of_coef_eq (normalized_padd (normalized_pmul ..) (normalized_pmul ..)) fun d => ?_⟩
  have hdiv := eq_xor_of_xor_eq (coef_pdiv hq d)
  simp only [coef_padd, coef_pmul, convAt_padd_left, convAt_padd_right, convAt_pmul_left, convAt_pmul_right] at hdiv ⊢
  rw [hdiv]
  ac_rfl

/-- Scaling a combination gives a combination. -/
theorem Combination.pscale {A B r t : Poly} (h : Combination A B r t) (hr : Normalized r) (k : Byte) :
    Combination A B (pscale r k) (pscale t k) := by
  obtain ⟨u, hu, hru⟩ := h
  refine ⟨Machine.pscale u k, normalized_pscale hu k,
    (normalized_pscale hr k).eq_of_coef_eq (normalized_padd (normalized_pmul ..) (normalized_pmul ..)) fun d => ?_⟩
  rw [hru, coef_pscale, coef_padd, coef_padd, coef_pmul, coef_pmul, coef_pmul, coef_pmul, convAt_pscale_left,
    convAt_pscale_left, xor_gfMul]

/-! ### What Euclid keeps -/

theorem euclidContinues_iff {R : Nat} {r : Poly} : euclidContinues Config.euclidStop R r = true ↔ R ≤ 2 * deg r := by
  simp [euclidContinues, Config.euclidStop]

/-- Both remainders are combinations, and the one before last has not met the stop condition (R187). -/
structure KeyInv (A B : Poly) (R : Nat) (rLast r tLast t : Poly) : Prop where
  bounds : EuclidInv (deg A) rLast r tLast t
  last : Combination A B rLast tLast
  now : Combination A B r t
  went_on : R ≤ 2 * deg rLast

theorem KeyInv.start {A B : Poly} {R : Nat} (hA : Normalized A) (hB : Normalized B) (hd : deg B ≤ deg A)
    (hR : R ≤ 2 * deg A) :
    KeyInv A B R A B [0#8] [1#8] := ⟨.start hA hB hd, .left hA B, .right A hB, hR⟩

theorem euclidLoop_keyInv {A B : Poly} {R fuel : Nat} {rLast r tLast t σ ω : Poly} (h : KeyInv A B R rLast r tLast t)
    (hl : euclidLoop Config.euclidStop R fuel rLast r tLast t = .ok (σ, ω)) :
    (∃ rLast' tLast', KeyInv A B R rLast' ω tLast' σ) ∧ 2 * deg ω < R := by
  induction fuel generalizing rLast r tLast t with
  | zero => cases hl
  | succ fuel ih =>
    rw [euclidLoop] at hl
    split at hl
    · split at hl
      · cases hl
      · obtain ⟨⟨q, r'⟩, hq, hl⟩ := except_bind_eq_ok.1 hl
        have hb := h.bounds.pass hq
        exact ih ⟨hb, h.now, h.last.pass h.now hb.r_normalized hq, euclidContinues_iff.1 ‹_›⟩ hl
    · rename_i hstop
      rw [euclidContinues_iff] at hstop
      cases hl
      exact ⟨⟨_, _, h⟩, by omega⟩

/-- What Euclid answers from `A` and `B`, scaled by the inverse of the locator's constant term (R190). -/
theorem euclidLoop_key {A B : Poly} {R fuel : Nat} {t r : Poly} {inv : Byte} (hA : Normalized A) (hB : Normalized B)
    (hd : deg B ≤ deg A) (hR : R ≤ 2 * deg A)
    (hl : euclidLoop Config.euclidStop R fuel A B [0#8] [1#8] = .ok (t, r)) :
    Normalized (pscale t inv) ∧ Normalized (pscale r inv) ∧ 2 * deg (pscale r inv) < R
      ∧ 2 * deg (pscale t inv) + R ≤ 2 * deg A ∧ Combination A B (pscale r inv) (pscale t inv) := by
  obtain ⟨⟨rLast, tLast, h, -, hnow, hwent⟩, hstop⟩ := euclidLoop_keyInv (.start hA hB hd hR) hl
  have hr := deg_pscale_le r inv
  have ht := deg_pscale_le t inv
  have hsum := h.deg_t_add_rLast
  exact ⟨normalized_pscale h.t_normalized inv, normalized_pscale h.r_normalized inv, by omega, by omega,
    hnow.pscale h.r_normalized inv⟩

/-! ### The key equation -/

theorem deg_mono_one (R : Nat) : deg (mono R 1#8) = R := by simp [deg, mono]

/-- A multiple of x^R has no coefficient below R. -/
theorem coef_pmul_mono_of_lt (u : Poly) {R d : Nat} (h : d < R) : coef (pmul u (mono R 1#8)) d = 0#8 := by
  rw [coef_pmul]
  exact xorSum_eq_zero fun i _ => by rw [coef_mono, if_neg (by omega), gfMul_zero_right]

/-- The polynomial of higher degree, and the other one (R186). -/
def euclidHigh (S : Poly) (R : Nat) : Poly := if R < deg S then S else mono R 1#8
def euclidLow (S : Poly) (R : Nat) : Poly := if R < deg S then mono R 1#8 else S

theorem normalized_euclidHigh {S : Poly} (hS : Normalized S) (R : Nat) : Normalized (euclidHigh S R) := by
  unfold euclidHigh
  split
  · exact hS
  · exact normalized_mono R 1#8

theorem normalized_euclidLow {S : Poly} (hS : Normalized S) (R : Nat) : Normalized (euclidLow S R) := by
  unfold euclidLow
  split
  · exact normalized_mono R 1#8
  · exact hS

/-- Euclid's loop from its initial state (R186). -/
def euclidRun (S : Poly) (R : Nat) : Except Err (Poly × Poly) :=
  euclidLoop Config.euclidStop R ((euclidHigh S R).length + (euclidLow S R).length + 2) (euclidHigh S R) (euclidLow S R)
    [0#8] [1#8]

/-- The last steps: the locator's constant term becomes 1 (R190, R191). -/
def euclidFinish (p : Poly × Poly) : Except Err (Poly × Poly) :=
  if coef p.1 0 = 0#8 then .error .sigmaConstant
  else .ok (pscale p.1 (gfInverse (coef p.1 0)), pscale p.2 (gfInverse (coef p.1 0)))

theorem euclid_eq_bind (S : Poly) (R : Nat) : euclid Config.euclidStop S R = euclidRun S R >>= euclidFinish := by
  simp only [euclid, deg_mono_one]
  refine congrArg (euclidRun S R >>= ·) (funext fun p => ?_)
  unfold euclidFinish
  by_cases h0 : coef p.1 0 = 0#8
  · rw [if_pos h0, if_pos h0]
  · rw [if_neg h0, if_neg h0, gfInv_of_ne_zero h0]
    rfl

theorem euclid_eq_ok {S : Poly} {R : Nat} {σ ω : Poly} (h : euclid Config.euclidStop S R = .ok (σ, ω)) :
    ∃ t r, euclidRun S R = .ok (t, r) ∧ coef t 0 ≠ 0#8
      ∧ σ = pscale t (gfInverse (coef t 0)) ∧ ω = pscale r (gfInverse (coef t 0)) := by
  rw [euclid_eq_bind] at h
  obtain ⟨⟨t, r⟩, hrun, h⟩ := except_bind_eq_ok.1 h
  unfold euclidFinish at h
  split at h
  · cases h
  · cases h
    exact ⟨t, r, hrun, ‹_›, rfl, rfl⟩

/-- Settles O35: the remainder Euclid stops at is a combination of the two polynomials it started from. -/
theorem euclidSolvesTheKeyEquation : Obligations.EuclidSolvesTheKeyEquation := by
  intro S R σ ω hS h
  obtain ⟨t, r, hl, ht0, rfl, rfl⟩ := euclid_eq_ok h
  have hX := normalized_mono R 1#8
  have hdX := deg_mono_one R
  have hone : coef (pscale t (gfInverse (coef t 0))) 0 = 1#8 := by rw [coef_pscale, gfMul_gfInverse ht0]
  by_cases hswap : R < deg S
  · simp only [euclidRun, euclidHigh, euclidLow, if_pos hswap] at hl
    obtain ⟨ht, hr, hω, hσ, u, hu, heq⟩ := euclidLoop_key (inv := gfInverse (coef t 0)) hS hX (by omega) (by omega) hl
    exact ⟨ht, hr, hone, hω, fun hle => absurd hle (by omega), fun _ => ⟨hσ, u, hu, heq⟩⟩
  · simp only [euclidRun, euclidHigh, euclidLow, if_neg hswap] at hl
    obtain ⟨ht, hr, hω, hσ, u, hu, heq⟩ := euclidLoop_key (inv := gfInverse (coef t 0)) hX hS (by omega) (by omega) hl
    refine ⟨ht, hr, hone, hω, fun _ => ⟨by omega, fun d hd => ?_⟩, fun hlt => absurd hlt hswap⟩
    rw [heq, coef_padd, coef_pmul_mono_of_lt u hd, BitVec.xor_zero]

/-! ### Its errors -/

/-- The division inside the loop never fails, so that a zero remainder is its only error. -/
theorem euclidLoop_error {R fuel : Nat} {rLast r tLast t : Poly} {e : Err} (hLast : Normalized rLast) (hr : Normalized r)
    (h : euclidLoop Config.euclidStop R fuel rLast r tLast t = .error e) : e = .zeroRemainder := by
  induction fuel generalizing rLast r tLast t with
  | zero => cases h; rfl
  | succ fuel ih =>
    rw [euclidLoop] at h
    split at h
    · split at h
      · cases h; rfl
      · rename_i hr0
        have hq := pdiv_of_ne_zero rLast hr (mt (isZero_iff r).2 hr0)
        rw [hq] at h
        exact ih hr (pdiv_bounds hLast hr hq).rem_normalized h
    · cases h

/-- With R = 0 the loop goes on until the remainder is 0. -/
theorem euclidLoop_zero {fuel : Nat} {rLast r tLast t : Poly} (hLast : Normalized rLast) (hr : Normalized r) :
    euclidLoop Config.euclidStop 0 fuel rLast r tLast t = .error .zeroRemainder := by
  induction fuel generalizing rLast r tLast t with
  | zero => rfl
  | succ fuel ih =>
    rw [euclidLoop, if_pos (euclidContinues_iff.2 (Nat.zero_le _))]
    split
    · rfl
    · have hq := pdiv_of_ne_zero rLast hr (mt (isZero_iff r).2 ‹_›)
      rw [hq]
      exact ih hr (pdiv_bounds hLast hr hq).rem_normalized

/-- With R ≥ 1 the loop stops at a remainder of degree 0 before it could ask whether it is 0, and each pass lowers the
degree, so that the fuel lasts (R189, R202; log 11). -/
theorem euclidLoop_ne_error {R fuel : Nat} {rLast r tLast t : Poly} (hR : 1 ≤ R) (hLast : Normalized rLast)
    (hr : Normalized r) (hf : deg r < fuel) (e : Err) :
    euclidLoop Config.euclidStop R fuel rLast r tLast t ≠ .error e := by
  induction fuel generalizing rLast r tLast t with
  | zero => exact absurd hf (Nat.not_lt_zero _)
  | succ fuel ih =>
    rw [euclidLoop]
    split
    · rename_i hgo
      rw [euclidContinues_iff] at hgo
      have hr0 : r ≠ [0#8] := by
        rintro rfl
        exact absurd hgo (by simp [deg]; omega)
      have hq := pdiv_of_ne_zero rLast hr hr0
      have hb := pdiv_bounds hLast hr hq
      rw [if_neg (mt (isZero_iff r).1 hr0), hq]
      refine ih hr hb.rem_normalized ?_
      obtain hz | hlt := hb.rem_small
      · have hdeg : deg [0#8] = 0 := rfl
        rw [hz]
        omega
      · omega
    · exact nofun

/-- Euclid's own errors beside the loop's: the constant term 0, which has no inverse. -/
theorem euclid_error {S : Poly} {R : Nat} {e : Err} (h : euclid Config.euclidStop S R = .error e) :
    e = .sigmaConstant ∨ euclidRun S R = .error e := by
  rw [euclid_eq_bind] at h
  cases hrun : euclidRun S R with
  | error e' =>
    rw [hrun] at h
    exact .inr h
  | ok p =>
    rw [hrun] at h
    change euclidFinish p = .error e at h
    unfold euclidFinish at h
    split at h
    · cases h
      exact .inl rfl
    · cases h

/-- Settles O36: the loop's only error is the zero remainder, met exactly with R = 0. -/
theorem euclidMeetsZeroRemainderOnlyAtZero : Obligations.EuclidMeetsZeroRemainderOnlyAtZero := by
  intro S hS
  have hHigh := normalized_euclidHigh hS
  have hLow := normalized_euclidLow hS
  refine ⟨fun R hR h => ?_, ?_, fun R e h => ?_⟩
  · obtain h | h := euclid_error h
    · cases h
    · exact euclidLoop_ne_error hR (hHigh R) (hLow R) (by unfold deg; omega) _ h
  · rw [euclid_eq_bind, euclidRun, euclidLoop_zero (hHigh 0) (hLow 0)]
    rfl
  · obtain h | h := euclid_error h
    · exact .inr h
    · exact .inl (euclidLoop_error (hHigh R) (hLow R) h)

end Sys2Proof.Machine
end

section
/-! SUPPORT. The tables of the segment decoder, the commands that read them, and the start of SEG.DECODE (43_segment.md
R221, R231, R233, R238, R241). -/

namespace Sys2Proof.Machine

/-! ### The tables -/

theorem alnumTable_getD_toNat {i : Nat} (h : i < 45) :
    (alnumTable.getD i 0#8).toNat = ("0123456789ABCDEFGHIJKLMNOPQRSTUVWXYZ $%*+-./:".toList.getD i ' ').toNat := by
  revert i; decide +kernel

theorem alnumTable_getD {i : Nat} (h : i < 45) : alnumTable.getD i 0#8 = alnumAscii i := by
  rw [alnumAscii, ← alnumTable_getD_toNat h, BitVec.ofNat_toNat, BitVec.setWidth_eq]

/-- The Shift-JIS code of a 13-bit value without shifts (R241). -/
theorem kanjiCode_eq (v : Nat) :
    kanjiCode v = v / 0xC0 * 256 + v % 0xC0 + if v < 5952 then 0x8140 else 0xC140 := by
  unfold kanjiCode
  rw [shiftLeft_or_of_lt (v / 0xC0) 8 256 rfl (by omega)]
  by_cases h : v < 5952
  · rw [if_pos h]
    exact if_pos (by omega)
  · rw [if_neg h]
    exact if_neg (by omega)

/-- The codes lie in the two ranges of double-byte characters (R241). -/
theorem kanjiCode_mem {v : Nat} (h : v ≤ 0x1FFF) :
    (0x8140 ≤ kanjiCode v ∧ kanjiCode v ≤ 0x9FFF) ∨ (0xE040 ≤ kanjiCode v ∧ kanjiCode v ≤ 0xEBBF) := by
  rw [kanjiCode_eq]
  split
  · exact .inl (by omega)
  · exact .inr (by omega)

/-! ### The commands -/

/-- A version that must be in 1..40 (R221, R248). -/
theorem State.answers_qrVersion {s : State} {P : State → Prop} {w : Word} {f : Nat → Except Err State}
    (hrest : Answers (s.settle (f w.toNat)) P) :
    Answers (s.settle (qrVersion w >>= f))
      (fun t => if w.toNat < 1 ∨ 40 < w.toNat then FailedClean .version s t else P t) :=
  State.answers_check (fun h => by rw [qrVersion_eq, if_neg (by omega)])
    (fun h => by rw [qrVersion_eq, if_pos (by omega)]) fun _ => hrest

theorem SegMode.ofValue_eq_none {m : Nat} (h1 : m ≠ 1) (h2 : m ≠ 2) (h4 : m ≠ 4) (h8 : m ≠ 8) : ofValue m = none := by
  unfold ofValue
  split <;> simp_all

/-- SEG.CCB past its checks: the width of its mode, or the error of a mode that has none (R248). -/
theorem State.answers_ccb (s : State) (m v : Nat) :
    Answers (s.settle (match SegMode.ofValue m with
      | none => .error .badMode
      | some mode => .ok (s.setRes0 (ccb mode v)))) fun t =>
      if m = 1 then CompletedResults s t (BitVec.ofNat 32 (ccb .numeric v)) s.res1
      else if m = 2 then CompletedResults s t (BitVec.ofNat 32 (ccb .alphanumeric v)) s.res1
      else if m = 4 then CompletedResults s t (BitVec.ofNat 32 (ccb .byte v)) s.res1
      else if m = 8 then CompletedResults s t (BitVec.ofNat 32 (ccb .kanji v)) s.res1
      else FailedClean .badMode s t := by
  by_cases h1 : m = 1
  · subst h1
    exact s.answers_setRes0 _
  by_cases h2 : m = 2
  · subst h2
    exact s.answers_setRes0 _
  by_cases h4 : m = 4
  · subst h4
    exact s.answers_setRes0 _
  by_cases h8 : m = 8
  · subst h8
    exact s.answers_setRes0 _
  simp only [SegMode.ofValue_eq_none h1 h2 h4 h8, if_neg h1, if_neg h2, if_neg h4, if_neg h8]
  exact ⟨_, rfl, s.raise_failedClean _⟩

theorem segAlnumCommand (s : State) : Answers (execSegAlnum s) fun t =>
    if 45 ≤ s.curArg0.toNat then FailedClean .alnumRange s t
    else CompletedResults s t
      (BitVec.ofNat 32 ("0123456789ABCDEFGHIJKLMNOPQRSTUVWXYZ $%*+-./:".toList.getD s.curArg0.toNat ' ').toNat) s.res1 := by
  refine State.answers_check (a := alnumTable.getD s.curArg0.toNat 0#8) (fun h => if_neg (by omega))
    (fun h => if_pos (by omega)) fun h => ?_
  rw [← alnumTable_getD_toNat (by omega)]
  exact s.answers_setRes0 _

theorem segKanjiCommand (s : State) : Answers (execSegKanji s) fun t =>
    if 0x1FFF < s.curArg0.toNat then FailedClean .operandRange s t
    else CompletedResults s t (BitVec.ofNat 32 (kanjiCode s.curArg0.toNat)) s.res1 :=
  State.answers_atMost (s.answers_setRes0 _)

/-- Settles O43: each command's checks in order, then its table. -/
theorem segTableCommands : Obligations.SegTableCommands := by
  intro s
  refine ⟨?ccb, segAlnumCommand s, ?kanji⟩
  case ccb => exact State.answers_atMost (State.answers_qrVersion (s.answers_ccb _ _))
  case kanji =>
    obtain ⟨t, ht, h⟩ := segKanjiCommand s
    refine ⟨t, ht, ?_⟩
    dsimp only
    split at h
    · rwa [if_pos ‹_›]
    · rename_i hv
      have hmem := kanjiCode_mem (Nat.not_lt.1 hv)
      have hres : t.res0.toNat = kanjiCode s.curArg0.toNat := by
        rw [h.2.1, BitVec.toNat_ofNat]
        omega
      rw [if_neg hv, ← kanjiCode_eq, hres]
      exact ⟨h, hmem⟩

/-- Settles O45: the two checks in order, then a fresh segment decoder. -/
theorem segDecodeStarts : Obligations.SegDecodeStarts := by
  intro s
  change Answers (execSegDecode s) _
  unfold execSegDecode
  rw [qrVersion_eq, cwbufRange_eq]
  by_cases hv : s.curArg2.toNat < 1 ∨ 40 < s.curArg2.toNat
  · simp only [if_pos hv, if_neg (show ¬ (1 ≤ s.curArg2.toNat ∧ s.curArg2.toNat ≤ 40) by omega)]
    exact ⟨_, rfl, s.raise_failedClean _⟩
  simp only [if_neg hv, if_pos (show 1 ≤ s.curArg2.toNat ∧ s.curArg2.toNat ≤ 40 by omega)]
  by_cases hr : 4096 < s.curArg0.toNat + s.curArg1.toNat
  · simp only [if_pos hr, if_neg (Nat.not_le.2 hr)]
    exact ⟨_, rfl, s.raise_failedClean _⟩
  · simp only [if_neg hr, if_pos (Nat.not_lt.1 hr)]
    exact ⟨_, rfl, rfl⟩

end Sys2Proof.Machine
end

section
/-! SUPPORT. Data segments: what a group of characters answers, what good groups give, the record a finished segment leaves,
and the output an error keeps (43_segment.md R223, R225, R230 to R246). -/

namespace Sys2Proof.Machine

/-! ### What a group answers -/

section
variable (s : State) (pos : Nat)

theorem State.rawByte_eq : s.rawByte pos =
    if s.avail pos < 8 then .error .pastEnd else .ok [BitVec.ofNat 8 (s.streamField pos 8)] := by
  rw [State.rawByte, State.readField_eq]
  split
  · rfl
  · rfl

theorem kanjiCode_bytes (v : Nat) :
    [BitVec.ofNat 8 (kanjiCode v >>> 8), BitVec.ofNat 8 (kanjiCode v &&& 0xFF)] = groupBytes .kanji v := by
  have hlow : BitVec.ofNat 8 (kanjiCode v &&& 0xFF) = BitVec.ofNat 8 (kanjiCode v) := by
    apply BitVec.eq_of_toNat_eq
    rw [BitVec.toNat_ofNat, BitVec.toNat_ofNat, show kanjiCode v &&& 0xFF = kanjiCode v % 2 ^ 8 from
      Nat.and_two_pow_sub_one_eq_mod _ 8, Nat.mod_mod]
  rw [hlow, Nat.shiftRight_eq_div_pow, kanjiCode_eq]
  rfl

theorem State.kanjiPair_eq : s.kanjiPair pos =
    if s.avail pos < 13 then .error .pastEnd else .ok (groupBytes .kanji (s.streamField pos 13)) := by
  rw [State.kanjiPair, State.readField_eq, ← kanjiCode_bytes]
  split
  · rfl
  · rfl

theorem State.numericGroup_eq (w k : Nat) : s.numericGroup pos w k =
    if s.avail pos < w then .error .pastEnd
    else if 10 ^ k ≤ s.streamField pos w then .error .numericRange
    else .ok (digits k (s.streamField pos w)) := by
  rw [State.numericGroup, State.readField_eq]
  split
  · rfl
  · by_cases h : 10 ^ k ≤ s.streamField pos w
    · rw [if_pos h]
      exact if_neg (Nat.not_lt.2 h)
    · rw [if_neg h]
      exact if_pos (Nat.not_le.1 h)

theorem alnumCode_of_lt {i : Nat} (h : i < 45) : alnumCode i = .ok (alnumTable.getD i 0#8) := if_pos h

theorem alnumCode_of_le {i : Nat} (h : 45 ≤ i) : alnumCode i = .error .alnumRange := if_neg (Nat.not_lt.2 h)

/-- The second character of a pair is always in range (R236). -/
theorem State.alnumPair_eq : s.alnumPair pos =
    if s.avail pos < 11 then .error .pastEnd
    else if 2025 ≤ s.streamField pos 11 then .error .alnumRange
    else .ok [alnumTable.getD (s.streamField pos 11 / 45) 0#8, alnumTable.getD (s.streamField pos 11 % 45) 0#8] := by
  rw [State.alnumPair, State.readField_eq]
  split
  · rfl
  · change alnumCode (s.streamField pos 11 / 45) >>= _ = _
    by_cases h : 2025 ≤ s.streamField pos 11
    · rw [if_pos h, alnumCode_of_le (by omega)]
      rfl
    · rw [if_neg h, alnumCode_of_lt (by omega), alnumCode_of_lt (Nat.mod_lt _ (by decide))]
      rfl

theorem State.alnumSingle_eq : s.alnumSingle pos =
    if s.avail pos < 6 then .error .pastEnd
    else if 45 ≤ s.streamField pos 6 then .error .alnumRange
    else .ok [alnumTable.getD (s.streamField pos 6) 0#8] := by
  rw [State.alnumSingle, State.readField_eq]
  split
  · rfl
  · change alnumCode (s.streamField pos 6) >>= _ = _
    by_cases h : 45 ≤ s.streamField pos 6
    · rw [if_pos h, alnumCode_of_le h]
      rfl
    · rw [if_neg h, alnumCode_of_lt (Nat.not_le.1 h)]
      rfl

end

/-! ### Whole groups -/

/-- Pieces of one length. -/
theorem length_flatMap_of_const {α β : Type} {f : α → List β} {n : Nat} (hf : ∀ a, (f a).length = n) (L : List α) :
    (L.flatMap f).length = n * L.length := by
  induction L with
  | nil => rfl
  | cons a L ih =>
    rw [List.flatMap_cons, List.length_append, hf, ih, List.length_cons, Nat.mul_succ, Nat.add_comm]

/-- A whole group of a mode (R234, R236, R239, R240). -/
def State.group (s : State) (m : SegMode) (pos : Nat) : Except Err (List Byte) :=
  match m with
  | .numeric => s.numericGroup pos 10 3
  | .alphanumeric => s.alnumPair pos
  | .byte => s.rawByte pos
  | .kanji => s.kanjiPair pos

section
variable {s : State} {pos : Nat}

/-- A field whose bits stand in the input is not past its end, and its value is theirs. -/
theorem State.field_of_holds {w v : Nat} (h : s.Holds pos (bitsOf w v)) (hv : v < 2 ^ w) :
    ¬ s.avail pos < w ∧ s.streamField pos w = v := by
  have hend : pos + w ≤ 8 * s.curArg1.toNat := by simpa using h.1
  rw [State.streamField_of_holds h, Nat.mod_eq_of_lt hv]
  exact ⟨by simp only [State.avail]; omega, rfl⟩

theorem State.readField_of_holds_of_lt {w v : Nat} (h : s.Holds pos (bitsOf w v)) (hv : v < 2 ^ w) :
    s.readField pos w = .ok v := by
  rw [State.readField_of_holds h, Nat.mod_eq_of_lt hv]

theorem State.numericGroup_of_holds {w k v : Nat} (h : s.Holds pos (bitsOf w v)) (hv : v < 10 ^ k) (hk : 10 ^ k ≤ 2 ^ w) :
    s.numericGroup pos w k = .ok (digits k v) := by
  obtain ⟨havail, hfield⟩ := State.field_of_holds h (Nat.lt_of_lt_of_le hv hk)
  rw [State.numericGroup_eq, if_neg havail, hfield, if_neg (Nat.not_le.2 hv)]

theorem State.alnumSingle_of_holds {v : Nat} (h : s.Holds pos (bitsOf 6 v)) (hv : v < 45) :
    s.alnumSingle pos = .ok [alnumAscii v] := by
  obtain ⟨havail, hfield⟩ := State.field_of_holds h (by omega)
  rw [State.alnumSingle_eq, if_neg havail, hfield, if_neg (Nat.not_le.2 hv), alnumTable_getD hv]

/-- R234 to R241: the bits of a group in range give its bytes. -/
theorem State.group_of_holds {m : SegMode} {g : Nat} (h : s.Holds pos (bitsOf (groupWidth m) g)) (hg : g < groupLimit m) :
    s.group m pos = .ok (groupBytes m g) := by
  cases m with
  | numeric =>
    have hg : g < 1000 := hg
    rw [State.group, State.numericGroup_of_holds (w := 10) (k := 3) h hg (by decide)]
    simp [digits, groupBytes, Nat.mod_eq_of_lt (show g / 100 < 10 by omega)]
  | alphanumeric =>
    have hg : g < 2025 := hg
    obtain ⟨havail, hfield⟩ := State.field_of_holds h (Nat.lt_trans hg (by decide))
    rw [groupWidth] at havail hfield
    rw [State.group, State.alnumPair_eq, hfield, if_neg havail, if_neg (Nat.not_le.2 hg),
      alnumTable_getD (by omega), alnumTable_getD (by omega), groupBytes]
  | byte =>
    obtain ⟨havail, hfield⟩ := State.field_of_holds h hg
    rw [groupWidth] at havail
    rw [State.group, State.rawByte_eq, if_neg havail]
    exact congrArg (fun v => Except.ok [BitVec.ofNat 8 v]) hfield
  | kanji =>
    obtain ⟨havail, hfield⟩ := State.field_of_holds h hg
    rw [groupWidth] at havail
    rw [State.group, State.kanjiPair_eq, if_neg havail]
    exact congrArg (fun v => Except.ok (groupBytes .kanji v)) hfield

/-- The first of the characters left is a whole group. -/
theorem State.segChars_group (s : State) (m : SegMode) (c pos : Nat) :
    s.segChars m (groupSize m + c) pos = .after (s.group m pos) (s.segChars m c (pos + groupWidth m)) := by
  cases m with
  | numeric => rw [Nat.add_comm]; rfl
  | alphanumeric => rw [Nat.add_comm]; rfl
  | byte => rw [Nat.add_comm]; rfl
  | kanji => rw [Nat.add_comm]; rfl

/-- Good groups give their bytes, then the rest decides. -/
theorem State.segChars_groups {m : SegMode} {gs : List Nat} (rest : Nat) (hgs : ∀ g ∈ gs, g < groupLimit m)
    (h : s.Holds pos (gs.flatMap (bitsOf (groupWidth m)))) :
    s.segChars m (groupSize m * gs.length + rest) pos =
      { out := gs.flatMap (groupBytes m) ++ (s.segChars m rest (pos + groupWidth m * gs.length)).out
        last := (s.segChars m rest (pos + groupWidth m * gs.length)).last } := by
  induction gs generalizing pos with
  | nil => simp
  | cons g gs ih =>
    obtain ⟨hg, hgs⟩ := List.forall_mem_cons.1 hgs
    rw [List.flatMap_cons, State.holds_append, bitsOf_length] at h
    obtain ⟨hfirst, hrest⟩ := h
    have hcount : groupSize m * (gs.length + 1) + rest = groupSize m + (groupSize m * gs.length + rest) := by
      rw [Nat.mul_succ]; omega
    have hpos : pos + groupWidth m * (gs.length + 1) = pos + groupWidth m + groupWidth m * gs.length := by
      rw [Nat.mul_succ]; omega
    rw [List.length_cons, hcount, hpos, State.segChars_group, State.group_of_holds hfirst hg, ih hgs hrest, Chars.after_ok,
      List.flatMap_cons, List.append_assoc]

end

/-! ### What a data segment leaves -/

theorem fromLittleEndian_littleEndian {n v : Nat} (h : v < 256 ^ n) : fromLittleEndian (littleEndian n v) = v := by
  induction n generalizing v with
  | zero =>
    obtain rfl : v = 0 := by omega
    rfl
  | succ n ih =>
    have hdiv : v / 256 < 256 ^ n := Nat.div_lt_of_lt_mul (by rwa [← Nat.pow_succ'])
    rw [littleEndian, fromLittleEndian, ih hdiv, BitVec.toNat_ofNat]
    omega

/-- A part of the bytes just written reads back. -/
theorem State.readBytes_writeBytes_part (s : State) (a : Nat) (vs : List Byte) {k n : Nat} (h : k + n ≤ vs.length) :
    (s.writeBytes a vs).readBytes (a + k) n = (vs.drop k).take n := by
  apply List.ext_getElem
  · rw [State.readBytes_length, List.length_take, List.length_drop]
    omega
  · intro j hj hj'
    rw [State.readBytes_length] at hj
    simp [State.readBytes, State.readByte_writeBytes, Nat.add_assoc, show k + j < vs.length by omega]

theorem State.readBytes_congr {s t : State} {a n : Nat} (h : ∀ x, a ≤ x → x < a + n → t.readByte x = s.readByte x) :
    t.readBytes a n = s.readBytes a n :=
  List.map_congr_left fun j hj => h _ (by omega) (by have := List.mem_range.1 hj; omega)

theorem ccb_le_sixteen (m : SegMode) (v : Nat) : ccb m v ≤ 16 := by
  unfold ccb
  dsimp only
  split
  · cases m <;> decide
  split
  · cases m <;> decide
  · cases m <;> decide

/-- The record's bytes are a write to its SEGTAB entry (R246). -/
theorem State.readByte_segRecord (s : State) (m : SegMode) (count pos length a : Nat) :
    (s.segRecord m count pos length).readByte a
      = (s.writeBytes (0x08000 + 16 * s.seg.nseg) (recordBytes m count s.seg.eci s.seg.nout length)).readByte a := by
  rw [State.segRecord_eq]
  simp only [State.readByte, segtabAddr]

theorem State.readBytes_segRecord (s : State) (m : SegMode) (count pos length : Nat) {k n : Nat} (h : k + n ≤ 16) :
    (s.segRecord m count pos length).readBytes (0x08000 + 16 * s.seg.nseg + k) n
      = ((recordBytes m count s.seg.eci s.seg.nout length).drop k).take n := by
  rw [State.readBytes_congr fun x _ _ => s.readByte_segRecord m count pos length x,
    State.readBytes_writeBytes_part _ _ _ (by rwa [recordBytes_length])]

theorem State.readByte_segRecord_of_outside (s : State) (m : SegMode) (count pos length : Nat) {a : Nat}
    (h : ¬ (0x08000 + 16 * s.seg.nseg ≤ a ∧ a < 0x08000 + 16 * s.seg.nseg + 16)) :
    (s.segRecord m count pos length).readByte a = s.readByte a := by
  rw [State.readByte_segRecord, State.readByte_writeBytes, recordBytes_length, if_neg h]

/-- A field of the record reads back as the number it was made from. -/
theorem State.field_segRecord (s : State) (m : SegMode) (count pos length : Nat) {k n v : Nat} (h : k + n ≤ 16)
    (hentry : ((recordBytes m count s.seg.eci s.seg.nout length).drop k).take n = littleEndian n v) (hv : v < 256 ^ n) :
    fromLittleEndian ((s.segRecord m count pos length).readBytes (0x08000 + 16 * s.seg.nseg + k) n) = v := by
  rw [State.readBytes_segRecord s m count pos length h, hentry, fromLittleEndian_littleEndian hv]

/-- The designator as a record holds it: 0 where there is none. -/
theorem designator_lt (eci : Option (BitVec 21)) : (eci.map BitVec.toNat).getD 0 < 256 ^ 4 := by
  cases eci with
  | none => decide
  | some v => exact Nat.lt_trans v.isLt (by decide)

/-- R225, R246: the output, then the record with its fields, as long as the two lie apart. -/
theorem State.segRecord_segmentDone (s : State) (m : SegMode) {count : Nat} (bits : Nat) {out : List Byte}
    (hcount : count < 2 ^ 16) (hout : s.seg.nout + out.length ≤ 12288) (hseg : s.seg.nseg < 3072) :
    SegmentDone s ((s.writeBytes (outbufAddr s.seg.nout) out).segRecord m count (s.seg.pos + 4 + bits) out.length)
      m.value count (recordEci m s.seg.eci) bits out := by
  obtain ⟨u, hu⟩ : ∃ u, u = s.writeBytes (outbufAddr s.seg.nout) out := ⟨_, rfl⟩
  have hsegEq : u.seg = s.seg := by rw [hu, State.writeBytes_seg]
  have hbytes : u.readBytes (0x04000 + s.seg.nout) out.length = out := by rw [hu]; exact s.readBytes_writeBytes _ out
  have houtside := s.writeBytes_sameMemExcept (0x04000 + s.seg.nout) out
  have hone := @State.readBytes_segRecord u m count (s.seg.pos + 4 + bits) out.length
  have hfield := @State.field_segRecord u m count (s.seg.pos + 4 + bits) out.length
  have hsame := @State.readByte_segRecord_of_outside u m count (s.seg.pos + 4 + bits) out.length
  rw [hsegEq] at hone hfield hsame
  rw [← hu]
  refine ⟨?output, ?mode, ?hasEci, ?count, ?eci, ?start, ?length, ?decoder, ?frame, ?progress, ?shell, ?results, ?rs, ?pr⟩
  case output => exact (State.readBytes_congr fun x _ hx => hsame (by omega)).trans hbytes
  case mode => exact List.head_eq_of_cons_eq (hone (k := 0) (n := 1) (by decide))
  case hasEci =>
    refine (List.head_eq_of_cons_eq (hone (k := 1) (n := 1) (by decide))).trans ?_
    cases recordEci m s.seg.eci with
    | none => rfl
    | some v => rfl
  case count => exact hfield (n := 2) (by decide) rfl hcount
  case eci =>
    refine (hfield (k := 4) (n := 4) (by decide) rfl (designator_lt _)).trans ?_
    cases recordEci m s.seg.eci with
    | none => rfl
    | some v => rfl
  case start => exact hfield (n := 4) (by decide) rfl (by omega)
  case length => exact hfield (n := 4) (by decide) rfl (by omega)
  case frame =>
    intro x hx
    obtain ⟨hx1, hx2⟩ := not_or.1 hx
    exact (hsame hx2).trans (hu ▸ houtside x hx1)
  all_goals rw [State.segRecord_eq, hu]
  case decoder => simp
  case progress => simp [SameProgress]
  case shell => simp [SameShell]
  case results => simp [SameResults]
  case rs => simp [SameRs]
  case pr => simp [SamePR]

theorem State.dataSegment_of_chars {s : State} {m : SegMode} {count pos : Nat} {out : List Byte}
    (hcount : s.readField (s.seg.pos + 4) (ccb m s.curArg2.toNat) = .ok count)
    (hchars : s.segChars m count (s.seg.pos + 4 + ccb m s.curArg2.toNat) = { out := out, last := .ok pos }) :
    s.dataSegment m = (s.writeBytes (outbufAddr s.seg.nout) out).segRecord m count pos out.length := by
  simp only [State.dataSegment, hcount, hchars]

/-- A data segment whose bits stand in the input: count field, then `body`, whose characters are `out` (R230). -/
theorem State.dataSegment_done {s : State} {m : SegMode} {count : Nat} {body : List Bool} {out : List Byte}
    (hcount : count < 2 ^ ccb m s.curArg2.toNat)
    (hholds : s.Holds (s.seg.pos + 4) (bitsOf (ccb m s.curArg2.toNat) count ++ body))
    (hchars : ∀ p, s.Holds p body → s.segChars m count p = { out := out, last := .ok (p + body.length) })
    (hout : s.seg.nout + out.length ≤ 12288) (hseg : s.seg.nseg < 3072) :
    SegmentDone s (s.dataSegment m) m.value count (recordEci m s.seg.eci) (ccb m s.curArg2.toNat + body.length) out := by
  rw [State.holds_append, bitsOf_length] at hholds
  obtain ⟨hfield, hbody⟩ := hholds
  have hread := State.readField_of_holds_of_lt hfield hcount
  rw [State.dataSegment_of_chars hread (hchars _ hbody), Nat.add_assoc _ (ccb ..)]
  exact s.segRecord_segmentDone m _
    (Nat.lt_of_lt_of_le hcount (Nat.pow_le_pow_right (by decide) (ccb_le_sixteen ..))) hout hseg

/-! ### The four modes -/

theorem digits_three {a b c : Nat} (hb : b < 10) (hc : c < 10) :
    groupBytes .numeric (100 * a + 10 * b + c) = [a, b, c].map fun d => BitVec.ofNat 8 (0x30 + d) := by
  have h100 : (100 * a + 10 * b + c) / 100 = a := by omega
  have h10 : (100 * a + 10 * b + c) / 10 % 10 = b := by omega
  have h1 : (100 * a + 10 * b + c) % 10 = c := by omega
  rw [groupBytes, h100, h10, h1]
  rfl

theorem digits_two {a b : Nat} (ha : a < 10) (hb : b < 10) :
    digits 2 (10 * a + b) = [a, b].map fun d => BitVec.ofNat 8 (0x30 + d) := by
  simp [digits, show (10 * a + b) / 10 % 10 = a by omega, Nat.mod_eq_of_lt hb]

theorem digits_one {a : Nat} (ha : a < 10) : digits 1 a = [a].map fun d => BitVec.ofNat 8 (0x30 + d) := by
  simp [digits, Nat.mod_eq_of_lt ha]

theorem State.numericChars_of_holds {s : State} {pos : Nat} {ds : List Nat} (hds : ∀ d ∈ ds, d < 10)
    (h : s.Holds pos (numericBits ds)) : s.numericChars ds.length pos =
      { out := ds.map fun d => BitVec.ofNat 8 (0x30 + d), last := .ok (pos + (numericBits ds).length) } := by
  induction ds using numericBits.induct generalizing pos with
  | case1 => rfl
  | case2 a =>
    have ha := hds a (by simp)
    simp only [List.length_singleton, State.numericChars, numericBits, bitsOf_length]
    rw [State.numericGroup_of_holds h (by omega) (by decide), digits_one ha]
    rfl
  | case3 a b =>
    have ha := hds a (by simp)
    have hb := hds b (by simp)
    simp only [List.length_cons, List.length_nil, State.numericChars, numericBits, bitsOf_length]
    rw [State.numericGroup_of_holds h (by omega) (by decide), digits_two ha hb]
    rfl
  | case4 a b c ds ih =>
    have ha := hds a (by simp)
    have hb := hds b (by simp)
    have hc := hds c (by simp)
    rw [numericBits, State.holds_append, bitsOf_length] at h
    obtain ⟨hgroup, hrest⟩ := h
    have hbytes : s.numericGroup pos 10 3 = .ok (groupBytes .numeric (100 * a + 10 * b + c)) :=
      State.group_of_holds (m := .numeric) hgroup (show _ < 1000 by omega)
    simp only [List.length_cons, State.numericChars]
    rw [hbytes, digits_three hb hc, ih (fun d hd => hds d (by simp [hd])) hrest, numericBits, List.length_append, bitsOf_length,
      Nat.add_assoc]
    rfl

theorem State.alnumChars_of_holds {s : State} {pos : Nat} {is : List Nat} (his : ∀ i ∈ is, i < 45)
    (h : s.Holds pos (alnumBits is)) : s.alnumChars is.length pos =
      { out := is.map alnumAscii, last := .ok (pos + (alnumBits is).length) } := by
  induction is using alnumBits.induct generalizing pos with
  | case1 => rfl
  | case2 a =>
    simp only [List.length_singleton, State.alnumChars, alnumBits, bitsOf_length]
    rw [State.alnumSingle_of_holds h (his a (by simp))]
    rfl
  | case3 a b is ih =>
    have ha := his a (by simp)
    have hb := his b (by simp)
    rw [alnumBits, State.holds_append, bitsOf_length] at h
    obtain ⟨hgroup, hrest⟩ := h
    have hbytes : s.alnumPair pos = .ok (groupBytes .alphanumeric (45 * a + b)) :=
      State.group_of_holds (m := .alphanumeric) hgroup (show _ < 2025 by omega)
    have hpair : groupBytes .alphanumeric (45 * a + b) = [alnumAscii a, alnumAscii b] := by
      rw [groupBytes, show (45 * a + b) / 45 = a by omega, show (45 * a + b) % 45 = b by omega]
    simp only [List.length_cons, State.alnumChars]
    rw [hbytes, hpair, ih (fun i hi => his i (by simp [hi])) hrest, alnumBits, List.length_append, bitsOf_length, Nat.add_assoc]
    rfl

/-- A segment of nothing but whole groups. -/
theorem State.segChars_of_holds {s : State} {pos : Nat} {m : SegMode} {gs : List Nat} (hgs : ∀ g ∈ gs, g < groupLimit m)
    (h : s.Holds pos (gs.flatMap (bitsOf (groupWidth m)))) : s.segChars m (groupSize m * gs.length) pos =
      { out := gs.flatMap (groupBytes m), last := .ok (pos + (gs.flatMap (bitsOf (groupWidth m))).length) } := by
  have hdone : ∀ p, s.segChars m 0 p = .done p := fun p => by cases m <;> rfl
  have hlen := length_flatMap_of_const (bitsOf_length (groupWidth m)) gs
  have h := State.segChars_groups 0 hgs h
  rwa [hdone, Chars.done, Nat.add_zero, List.append_nil, ← hlen] at h

/-- Settles O46: three digits, then two, or one at a time. -/
theorem numericSegmentDecodes : Obligations.NumericSegmentDecodes := by
  intro s ds hds hlen hholds hout hseg
  exact ⟨_, rfl, State.dataSegment_done hlen hholds (fun p => State.numericChars_of_holds hds) (by simpa using hout) hseg⟩

/-- Settles O47: two characters, then one at a time. -/
theorem alphanumericSegmentDecodes : Obligations.AlphanumericSegmentDecodes := by
  intro s is his hlen hholds hout hseg
  exact ⟨_, rfl, State.dataSegment_done hlen hholds (fun p => State.alnumChars_of_holds his) (by simpa using hout) hseg⟩

/-- Settles O48: every group is one byte. -/
theorem byteSegmentDecodes : Obligations.ByteSegmentDecodes := by
  intro s bs hlen hholds hout hseg
  refine ⟨_, rfl, ?_⟩
  have hbody : bs.flatMap (fun b => bitsOf 8 b.toNat) = (bs.map BitVec.toNat).flatMap (bitsOf (groupWidth .byte)) := by
    rw [List.flatMap_map]
    rfl
  have hbytes : (bs.map BitVec.toNat).flatMap (groupBytes .byte) = bs := by
    simp [List.flatMap_map, groupBytes]
  have hchars : ∀ p, s.Holds p (bs.flatMap fun b => bitsOf 8 b.toNat) → s.segChars .byte bs.length p =
      { out := bs, last := .ok (p + (bs.flatMap fun b => bitsOf 8 b.toNat).length) } := fun p hp => by
    rw [hbody] at hp ⊢
    have h := State.segChars_of_holds (m := .byte) (fun g hg => by
      obtain ⟨b, -, rfl⟩ := List.mem_map.1 hg
      exact b.isLt) hp
    rwa [hbytes, List.length_map, groupSize, Nat.one_mul] at h
  have hdone := State.dataSegment_done hlen hholds hchars hout hseg
  rwa [length_flatMap_of_const fun b : Byte => bitsOf_length 8 b.toNat] at hdone

/-- Settles O49: every group is two bytes. -/
theorem kanjiSegmentDecodes : Obligations.KanjiSegmentDecodes := by
  intro s vs hvs hlen hholds hout hseg
  refine ⟨_, rfl, ?_⟩
  have hchars : ∀ p, s.Holds p (vs.flatMap (bitsOf 13)) → s.segChars .kanji vs.length p =
      { out := vs.flatMap (groupBytes .kanji), last := .ok (p + (vs.flatMap (bitsOf 13)).length) } := fun p hp => by
    have h := State.segChars_of_holds (m := .kanji) hvs hp
    rwa [groupSize, Nat.one_mul] at h
  have hbytes : (vs.flatMap (groupBytes .kanji)).length = 2 * vs.length :=
    length_flatMap_of_const (f := groupBytes .kanji) (fun _ => rfl) vs
  have hdone := State.dataSegment_done hlen hholds hchars (by rwa [hbytes]) hseg
  rwa [length_flatMap_of_const (bitsOf_length 13)] at hdone

/-! ### Errors -/

section
variable {s : State} {pos : Nat} {e : Err}

/-- R223: reading a group past the end, or a value out of range. -/
theorem State.fieldFails.group_eq_error {w limit : Nat} {range : Err} {x : Except Err (List Byte)} {bs : List Byte}
    (h : s.fieldFails pos w limit range e)
    (hx : x = if s.avail pos < w then .error .pastEnd else if limit ≤ s.streamField pos w then .error range else .ok bs) :
    x = .error e := by
  obtain ⟨hend, rfl⟩ | ⟨hend, hlimit, rfl⟩ := h
  · rw [hx, if_pos hend]
  · rw [hx, if_neg (Nat.not_lt.2 hend), if_pos hlimit]

theorem State.segChars_of_groupError {m : SegMode} {rest : Nat} (hrest : groupSize m ≤ rest) (h : s.group m pos = .error e) :
    s.segChars m rest pos = { out := [], last := .error e } := by
  obtain ⟨c, rfl⟩ := Nat.exists_eq_add_of_le hrest
  rw [State.segChars_group, h, Chars.after_error]

/-- The next group of a mode fails, and nothing is emitted after the good groups (R245). -/
theorem State.segChars_of_groupFails {m : SegMode} {rest : Nat} (hrest : 0 < rest) (h : s.groupFails m rest pos e) :
    s.segChars m rest pos = { out := [], last := .error e } := by
  cases m with
  | numeric =>
    unfold State.groupFails at h
    by_cases h3 : 3 ≤ rest
    · rw [if_pos h3] at h
      exact State.segChars_of_groupError h3 (h.group_eq_error (s.numericGroup_eq pos 10 3))
    rw [if_neg h3] at h
    by_cases h2 : rest = 2
    · subst h2
      rw [if_pos rfl] at h
      rw [State.segChars, State.numericChars, h.group_eq_error (s.numericGroup_eq pos 7 2), Chars.after_error]
    · obtain rfl : rest = 1 := by omega
      rw [if_neg h2] at h
      rw [State.segChars, State.numericChars, h.group_eq_error (s.numericGroup_eq pos 4 1), Chars.after_error]
  | alphanumeric =>
    unfold State.groupFails at h
    by_cases h2 : 2 ≤ rest
    · rw [if_pos h2] at h
      exact State.segChars_of_groupError h2 (h.group_eq_error (s.alnumPair_eq pos))
    · obtain rfl : rest = 1 := by omega
      rw [if_neg h2] at h
      rw [State.segChars, State.alnumChars, h.group_eq_error (s.alnumSingle_eq pos), Chars.after_error]
  | byte =>
    obtain ⟨hend, rfl⟩ := h
    exact State.segChars_of_groupError hrest ((s.rawByte_eq pos).trans (if_pos hend))
  | kanji =>
    obtain ⟨hend, rfl⟩ := h
    exact State.segChars_of_groupError hrest ((s.kanjiPair_eq pos).trans (if_pos hend))

/-- The four indicators and their modes (R230). -/
theorem exec_dataSegment (s : State) {i : Instr} {m : SegMode}
    (h : (i, m) ∈ [(Instr.modeNumeric, SegMode.numeric), (.modeAlphanumeric, .alphanumeric), (.modeByte, .byte),
      (.modeKanji, .kanji)]) : exec i s = .next (s.dataSegment m) := by
  simp only [List.mem_cons, Prod.mk.injEq, List.not_mem_nil, or_false] at h
  obtain ⟨rfl, rfl⟩ | ⟨rfl, rfl⟩ | ⟨rfl, rfl⟩ | ⟨rfl, rfl⟩ := h
  · rfl
  · rfl
  · rfl
  · rfl

theorem State.dataSegment_of_avail {m : SegMode} (h : s.avail (s.seg.pos + 4) < ccb m s.curArg2.toNat) :
    s.dataSegment m = s.segFail .pastEnd := by
  have hread : s.readField (s.seg.pos + 4) (ccb m s.curArg2.toNat) = .error .pastEnd := by rw [State.readField_eq, if_pos h]
  simp only [State.dataSegment, hread]

/-- R245: an error in the characters keeps what was emitted before it. -/
theorem State.dataSegment_of_charsError {m : SegMode} {count : Nat} {out : List Byte}
    (hcount : s.readField (s.seg.pos + 4) (ccb m s.curArg2.toNat) = .ok count)
    (hchars : s.segChars m count (s.seg.pos + 4 + ccb m s.curArg2.toNat) = { out := out, last := .error e }) :
    Failed e s (s.dataSegment m) ∧ (s.dataSegment m).res0 = 0#32 ∧ (s.dataSegment m).res1 = 0#32 ∧ SameRs s (s.dataSegment m)
      ∧ SamePR s (s.dataSegment m) ∧ (s.dataSegment m).readBytes (0x04000 + s.seg.nout) out.length = out
      ∧ SameMemExcept s (s.dataSegment m) (fun a => 0x04000 + s.seg.nout ≤ a ∧ a < 0x04000 + s.seg.nout + out.length) := by
  have hseg : s.dataSegment m = (s.writeBytes (outbufAddr s.seg.nout) out).segFail e := by
    simp only [State.dataSegment, hcount, hchars]
  have hbytes := s.readBytes_writeBytes (outbufAddr s.seg.nout) out
  have houtside := s.writeBytes_sameMemExcept (outbufAddr s.seg.nout) out
  rw [hseg]
  rw [s.writeBytes_eq (outbufAddr s.seg.nout) out] at hbytes houtside ⊢
  obtain ⟨hfailed, hr0, hr1, hrs, hpr, hmem⟩ := State.segFail_failed _ e
  exact ⟨hfailed, hr0, hr1, hrs, hpr, (State.readBytes_congr fun x _ _ => hmem x).trans hbytes,
    fun x hx => (hmem x).trans (houtside x hx)⟩

end

/-- Settles O52: the count field, then the group after the good ones. -/
theorem segmentErrorsKeepThePrefix : Obligations.SegmentErrorsKeepThePrefix := by
  intro s
  refine ⟨fun i m him => ⟨fun h => ?_, fun count out e hcount hchars => ?_⟩,
    fun m gs rest pos e hgs hrest hholds hfails => ?_, fun i m gs rest e him hgs hrest hlt hholds hfails => ?_,
    s.rawByte_eq, s.kanjiPair_eq, fun pos w k _ => s.numericGroup_eq pos w k, s.alnumPair_eq, s.alnumSingle_eq⟩
  · rw [exec_dataSegment s him, State.dataSegment_of_avail h]
    exact ⟨_, rfl, s.segFail_failed .pastEnd⟩
  · rw [exec_dataSegment s him]
    exact ⟨_, rfl, State.dataSegment_of_charsError hcount hchars⟩
  · rw [State.segChars_groups rest hgs hholds, State.segChars_of_groupFails hrest hfails, List.append_nil]
  · rw [State.holds_append, bitsOf_length] at hholds
    obtain ⟨hfield, hgroups⟩ := hholds
    have hread := State.readField_of_holds_of_lt hfield hlt
    have hchars := State.segChars_groups rest hgs hgroups
    rw [State.segChars_of_groupFails hrest hfails, List.append_nil] at hchars
    rw [exec_dataSegment s him]
    exact ⟨_, rfl, State.dataSegment_of_charsError hread hchars⟩

end Sys2Proof.Machine
end

section
/-! SUPPORT. ECI designators in the bit stream: the three lengths, the bad lead byte, and the end of the input (43_segment.md
R223, R242, R243). -/

namespace Sys2Proof.Machine

/-! ### Bits in front of a number -/

/-- Only the low digits of a number are taken. -/
theorem bitsOf_mod {w n : Nat} (v : Nat) (h : w ≤ n) : bitsOf w (v % 2 ^ n) = bitsOf w v := by
  induction w with
  | zero => rfl
  | succ w ih => simp [bitsOf, ih (by omega), Nat.testBit_mod_two_pow, show w < n by omega]

theorem bitsOf_append (m n p v : Nat) : bitsOf m p ++ bitsOf n v = bitsOf (m + n) (p * 2 ^ n + v % 2 ^ n) := by
  have hpos : 0 < 2 ^ n := Nat.two_pow_pos n
  have hlow : (p * 2 ^ n + v % 2 ^ n) % 2 ^ n = v % 2 ^ n := by rw [Nat.mul_add_mod_self_right, Nat.mod_mod]
  have hhigh : (p * 2 ^ n + v % 2 ^ n) / 2 ^ n = p := by
    rw [Nat.mul_comm, Nat.mul_add_div hpos, Nat.div_eq_of_lt (Nat.mod_lt _ hpos), Nat.add_zero]
  rw [bitsOf_add, hhigh, ← bitsOf_mod (_ + _) (Nat.le_refl n), hlow, bitsOf_mod v (Nat.le_refl n)]

/-! ### The designator -/

section
variable {s : State} {pos : Nat}

/-- The lead byte decides how many bytes follow (R242). -/
theorem State.eciDesignator_of_lead {f hi k : Nat} (h : s.Holds pos (bitsOf 8 f)) (hf : f < 256)
    (hlead : eciLeadByte f = .ok (hi, k)) : s.eciDesignator pos =
      if k = 0 then .ok (hi, pos + 8)
      else s.readField (pos + 8) (8 * k) >>= fun lo => .ok (hi <<< (8 * k) ||| lo, pos + 8 + 8 * k) := by
  rw [State.eciDesignator, State.readField_of_holds_of_lt h hf]
  change eciLeadByte f >>= _ = _
  rw [hlead]
  rfl

/-- The whole designator stands in the input. -/
theorem State.eciDesignator_of_holds_all {W hi k : Nat} (h : s.Holds pos (bitsOf (8 + 8 * k) W)) (hW : W / 2 ^ (8 * k) < 256)
    (hlead : eciLeadByte (W / 2 ^ (8 * k)) = .ok (hi, k)) :
    s.eciDesignator pos = .ok (hi * 2 ^ (8 * k) + W % 2 ^ (8 * k), pos + 8 + 8 * k) := by
  rw [bitsOf_add, State.holds_append, bitsOf_length] at h
  obtain ⟨hfirst, hrest⟩ := h
  rw [State.eciDesignator_of_lead hfirst hW hlead, State.readField_of_holds hrest]
  split
  · subst k
    simp [Nat.mod_one]
  · change Except.ok (hi <<< (8 * k) ||| W % 2 ^ (8 * k), _) = _
    rw [shiftLeft_or_of_lt hi _ _ rfl (Nat.mod_lt _ (Nat.two_pow_pos _))]

/-- The bytes the lead byte asks for run past the end (R223). -/
theorem State.eciDesignator_pastEnd {f hi k : Nat} (h : s.Holds pos (bitsOf 8 f)) (hf : f < 256)
    (hlead : eciLeadByte f = .ok (hi, k)) (hend : s.avail (pos + 8) < 8 * k) : s.eciDesignator pos = .error .pastEnd := by
  rw [State.eciDesignator_of_lead h hf hlead, if_neg (by omega), State.readField_eq, if_pos hend]
  rfl

theorem State.eciDesignator_of_avail (h : s.avail pos < 8) : s.eciDesignator pos = .error .pastEnd := by
  rw [State.eciDesignator, State.readField_eq, if_pos h]
  rfl

theorem State.eciDesignator_badLead {f : Nat} (h : s.Holds pos (bitsOf 8 f)) (hf : f < 256) (hlead : 224 ≤ f) :
    s.eciDesignator pos = .error .eciLead := by
  rw [State.eciDesignator, State.readField_of_holds_of_lt h hf]
  change eciLeadByte f >>= _ = _
  rw [eciLeadByte_eq hf, if_neg (by omega), if_neg (by omega), if_neg (by omega)]
  rfl

theorem eciLeadByte_one {f : Nat} (h : f < 128) : eciLeadByte f = .ok (f, 0) := by
  rw [eciLeadByte_eq (by omega), if_pos h]

theorem eciLeadByte_two {f : Nat} (h : 128 ≤ f) (h' : f < 192) : eciLeadByte f = .ok (f - 128, 1) := by
  rw [eciLeadByte_eq (by omega), if_neg (by omega), if_pos h']

theorem eciLeadByte_three {f : Nat} (h : 192 ≤ f) (h' : f < 224) : eciLeadByte f = .ok (f - 192, 2) := by
  rw [eciLeadByte_eq (by omega), if_neg (by omega), if_neg (by omega), if_pos h']

/-- R242: each of the three lengths gives its value back. -/
theorem State.eciDesignator_value {v : Nat} {bits : List Bool}
    (hbits : (v < 2 ^ 7 ∧ bits = false :: bitsOf 7 v) ∨ (v < 2 ^ 14 ∧ bits = true :: false :: bitsOf 14 v)
      ∨ (v < 2 ^ 21 ∧ bits = true :: true :: false :: bitsOf 21 v))
    (h : s.Holds pos bits) : s.eciDesignator pos = .ok (v, pos + bits.length) := by
  obtain ⟨hv, rfl⟩ | ⟨hv, rfl⟩ | ⟨hv, rfl⟩ := hbits
  · rw [show false :: bitsOf 7 v = bitsOf 1 0 ++ bitsOf 7 v from rfl, bitsOf_append, Nat.mod_eq_of_lt hv] at h ⊢
    have hvalue := State.eciDesignator_of_holds_all (k := 0) h (by omega) (eciLeadByte_one (by omega))
    rw [hvalue]
    simp [Nat.mod_one]
  · rw [show true :: false :: bitsOf 14 v = bitsOf 2 2 ++ bitsOf 14 v from rfl, bitsOf_append, Nat.mod_eq_of_lt hv] at h ⊢
    have hvalue := State.eciDesignator_of_holds_all (k := 1) h (by omega) (eciLeadByte_two (by omega) (by omega))
    rw [hvalue, bitsOf_length]
    congr 2
    omega
  · rw [show true :: true :: false :: bitsOf 21 v = bitsOf 3 6 ++ bitsOf 21 v from rfl, bitsOf_append,
      Nat.mod_eq_of_lt hv] at h ⊢
    have hvalue := State.eciDesignator_of_holds_all (k := 2) h (by omega) (eciLeadByte_three (by omega) (by omega))
    rw [hvalue, bitsOf_length]
    congr 2
    omega

end

theorem execModeEci_of_error {s : State} {e : Err} (h : s.eciDesignator (s.seg.pos + 4) = .error e) :
    Answers (execModeEci s) fun t =>
      Failed e s t ∧ t.res0 = 0#32 ∧ t.res1 = 0#32 ∧ SameRs s t ∧ SamePR s t ∧ SameMem s t := by
  rw [execModeEci, h]
  exact ⟨_, rfl, s.segFail_failed e⟩

/-- Settles O50: the lead byte, then the bytes it asks for. -/
theorem eciDesignatorDecodes : Obligations.EciDesignatorDecodes := by
  intro s
  refine ⟨fun v bits hbits hholds => ?_, fun tail hholds => ?_, fun hend => ?_⟩
  · have hvalue := State.eciDesignator_value (hbits.imp_right (Or.imp_right fun h => ⟨v.isLt, h⟩)) hholds
    change execModeEci s = _
    simp only [execModeEci, hvalue, BitVec.ofNat_toNat, BitVec.setWidth_eq]
  · rw [show true :: true :: true :: bitsOf 5 tail = bitsOf 3 7 ++ bitsOf 5 tail from rfl, bitsOf_append] at hholds
    exact execModeEci_of_error (State.eciDesignator_badLead hholds (by omega) (by omega))
  · refine execModeEci_of_error ?_
    obtain hend | ⟨tail, hholds, hend⟩ | ⟨tail, hholds, hend⟩ := hend
    · exact State.eciDesignator_of_avail hend
    · rw [show true :: false :: bitsOf 6 tail = bitsOf 2 2 ++ bitsOf 6 tail from rfl, bitsOf_append] at hholds
      exact State.eciDesignator_pastEnd hholds (by omega) (eciLeadByte_two (by omega) (by omega)) hend
    · rw [show true :: true :: false :: bitsOf 5 tail = bitsOf 3 6 ++ bitsOf 5 tail from rfl, bitsOf_append] at hholds
      exact State.eciDesignator_pastEnd hholds (by omega) (eciLeadByte_three (by omega) (by omega)) hend

end Sys2Proof.Machine
end

section
/-! SUPPORT. RS.DECODE against the script RS.STAGES: the stages run one by one on registers and arrays, RS.DECODE in scratch
(42_reed_solomon.md R198, R199). -/

namespace Sys2Proof.Machine

/-! ### One command of a script -/

/-- The state a command of the script runs in. -/
abbrev State.withArgs (s : State) (a0 a1 a2 : Word) : State := { s with curArg0 := a0, curArg1 := a1, curArg2 := a2 }

/-- How a command that computed `x` into scratch leaves the state. -/
def State.settled (s : State) : Except Err State → State
  | .ok t => t.complete
  | .error e => s.raise e

theorem State.settle_eq (s : State) (x : Except Err State) : s.settle x = .next (s.settled x) := by
  cases x with
  | ok t => rfl
  | error e => rfl

section
variable {s : State} {i : Instr} {a0 a1 a2 : Word}

/-- An error ends the script. -/
theorem State.stage_of_err (h : s.err = true) : s.stage i a0 a1 a2 = s := if_pos h

theorem State.stage_of_settle {x : Except Err State} (h : s.err = false)
    (hexec : exec i (s.withArgs a0 a1 a2) = (s.withArgs a0 a1 a2).settle x) :
    s.stage i a0 a1 a2 = (s.withArgs a0 a1 a2).settled x := by
  rw [State.settle_eq] at hexec
  exact (if_neg (by simp [h])).trans (by rw [show exec i _ = _ from hexec])

end

/-! ### RS.DECODE, stage by stage -/

/-- The three operand checks (R181, R62). -/
def rsOperands (s : State) : Except Err (Nat × Nat × Nat) := do
  let n ← blockLength s.curArg1
  let twoS ← ecCount s.curArg2 n
  let a ← cwbufRange s.curArg0 n
  return (n, twoS, a)

/-- RS.DECODE once the magnitudes are known. -/
def rsApplied (s : State) (n a : Nat) (L M : List Byte) : Except Err State :=
  positions n L >>= fun ps =>
    .ok (({ s.cwCorrect a (ps.zip M) with
      errCnt := BitVec.ofNat 8 L.length, errLoc := rsArray L, errMag := rsArray M }.setRes0 L.length).setRes1 0)

/-- RS.DECODE once the locations are known. -/
def rsForneyed (s : State) (n a : Nat) (omega : Poly) (L : List Byte) : Except Err State :=
  forney omega L >>= fun M => rsApplied s n a L M

/-- RS.DECODE once the locator and the evaluator are known. -/
def rsChiened (s : State) (n a : Nat) (sigma omega : Poly) : Except Err State :=
  chien sigma >>= fun L => rsForneyed s n a omega L

/-- RS.DECODE once the syndromes are known and not all 0. -/
def rsEuclided (s : State) (n a twoS : Nat) (S : Poly) : Except Err State :=
  euclid Config.euclidStop S twoS >>= fun p => rsChiened s n a p.1 p.2

/-- RS.DECODE of a block whose syndromes are all 0 (R198). -/
def rsNoError (s : State) : State :=
  ({ s with errCnt := 0#8, errLoc := rsArray [], errMag := rsArray [] }.setRes0 0).setRes1 1

/-- The syndromes of the block that passed the checks, and whether all are 0 (R184). -/
def rsSyndromes (s : State) (p : Nat × Nat × Nat) : Poly × Bool := syndrome (norm (s.cwRead p.2.2 p.1)) p.2.1

/-- RS.DECODE of the block that passed the checks. -/
def rsDecoded (s : State) (p : Nat × Nat × Nat) : Except Err State :=
  if (rsSyndromes s p).2 then .ok (rsNoError s) else rsEuclided s p.1 p.2.2 p.2.1 (rsSyndromes s p).1

/-- RS.SYND of the block that passed the checks. -/
def rsSynded (s : State) (d : PReg) (p : Nat × Nat × Nat) : Except Err State :=
  .ok ((s.setPR d (rsSyndromes s p).1).setRes0 (rsSyndromes s p).2.toNat)

theorem execRsDecode_eq (s : State) : execRsDecode s = s.settle (rsOperands s >>= rsDecoded s) := by
  simp only [rsOperands, bind_assoc, pure_bind]
  rfl

theorem execRsSynd_eq (s : State) (d : PReg) : execRsSynd d s = s.settle (rsOperands s >>= rsSynded s d) := by
  simp only [rsOperands, bind_assoc, pure_bind]
  rfl

theorem rsOperands_eq_ok {s : State} {n twoS a : Nat} (h : rsOperands s = .ok (n, twoS, a)) :
    blockLength s.curArg1 = .ok n ∧ cwbufRange s.curArg0 n = .ok a ∧ s.curArg2.toNat = twoS ∧ twoS ≤ 511 := by
  obtain ⟨n', hn, h⟩ := except_bind_eq_ok.1 h
  obtain ⟨twoS', htwoS, h⟩ := except_bind_eq_ok.1 h
  obtain ⟨a', ha, h⟩ := except_bind_eq_ok.1 h
  cases h
  obtain ⟨⟨-, hn255⟩, rfl⟩ := check_eq_ok.1 hn
  obtain ⟨hle, rfl⟩ := check_eq_ok.1 htwoS
  simp only [Config.rsNmax] at hn255
  exact ⟨hn, ha, rfl, by omega⟩

/-! ### The two side by side -/

/-- What the statement asks of RS.DECODE's end `t` and the script's end `u` (R199). -/
def SameEnd (t u : State) : Prop :=
  u.err = t.err ∧ u.errCode = t.errCode ∧ u.errDetail = t.errDetail ∧ SameMem t u
    ∧ (t.err = false → t.res1 = 0#32 → u.errCnt = t.errCnt ∧ u.errLoc = t.errLoc ∧ u.errMag = t.errMag)

/-- The script went on so far, and wrote no memory. -/
structure Script (s w : State) : Prop where
  err : w.err = false
  mem : w.mem = s.mem
  epoch : w.epoch = s.epoch

/-- The same error in both. -/
theorem Script.sameEnd_raise {s w : State} (h : Script s w) (e : Err) (a0 a1 a2 : Word) :
    SameEnd (s.raise e) ((w.withArgs a0 a1 a2).raise e) :=
  ⟨rfl, rfl, rfl, SameMem.of_mem h.mem h.epoch, fun h => by cases h⟩

/-- Corrections read and write the memory alone. -/
theorem State.cwCorrect_mem_congr {s w : State} (hmem : w.mem = s.mem) (hepoch : w.epoch = s.epoch) (a : Nat)
    (cs : List (Nat × Byte)) :
    (w.cwCorrect a cs).mem = (s.cwCorrect a cs).mem ∧ (w.cwCorrect a cs).epoch = (s.cwCorrect a cs).epoch := by
  induction cs generalizing s w with
  | nil => exact ⟨hmem, hepoch⟩
  | cons c cs ih =>
    refine ih ?_ hepoch
    simp only [State.cwXor, State.writeByte, State.readByte, hmem, hepoch]

section
variable {s w : State} {n a : Nat} {off nWord twoS : Word} {L : List Byte}

theorem ofNat_length_toNat (h : L.length ≤ 255) : (BitVec.ofNat 8 L.length).toNat = L.length :=
  Nat.mod_eq_of_lt (Nat.lt_succ_of_le h)

theorem Script.apply (h : Script s w) (hn : blockLength nWord = .ok n) (ha : cwbufRange off n = .ok a) {M : List Byte}
    (hL : L.length ≤ 255) (hM : M.length = L.length) (hcnt : w.errCnt = BitVec.ofNat 8 L.length) (hloc : w.errLoc = rsArray L)
    (hmag : w.errMag = rsArray M) :
    SameEnd (s.settled (rsApplied s n a L M)) (w.stage .rsApply off nWord twoS) := by
  have hlocs : w.locations = L := by rw [State.locations, hcnt, ofNat_length_toNat hL, hloc, rsArray_take hL]
  have hmags : w.magnitudes = M := by
    rw [State.magnitudes, hcnt, ofNat_length_toNat hL, hmag, ← hM, rsArray_take (hM ▸ hL)]
  have hstage : w.stage .rsApply off nWord twoS = (w.withArgs off nWord twoS).settled (positions n L >>= fun ps =>
      .ok (((w.withArgs off nWord twoS).cwCorrect a (ps.zip M)).setRes0 w.errCnt.toNat)) := by
    refine State.stage_of_settle h.err ?_
    subst hlocs hmags
    change State.settle _ (blockLength nWord >>= fun n => cwbufRange off n >>= _) = _
    rw [hn]
    change State.settle _ (cwbufRange off n >>= _) = _
    rw [ha]
    rfl
  rw [hstage, rsApplied]
  cases positions n L with
  | error e => exact h.sameEnd_raise e ..
  | ok ps =>
    obtain ⟨hmem, hepoch⟩ :=
      State.cwCorrect_mem_congr (s := s) (w := w.withArgs off nWord twoS) h.mem h.epoch a (ps.zip M)
    refine ⟨rfl, rfl, rfl, SameMem.of_mem hmem hepoch, fun _ _ => ?_⟩
    change ((w.withArgs off nWord twoS).cwCorrect a (ps.zip M)).errCnt = _
      ∧ ((w.withArgs off nWord twoS).cwCorrect a (ps.zip M)).errLoc = _
      ∧ ((w.withArgs off nWord twoS).cwCorrect a (ps.zip M)).errMag = _
    rw [State.cwCorrect_eq]
    exact ⟨hcnt, hloc, hmag⟩

theorem rsArray_nil : rsArray [] = Vector.replicate 255 0#8 := by
  apply Vector.ext
  simp [rsArray]

/-- Magnitudes stored over a cleared array (R194, R196). -/
theorem rsArray_append_drop_nil (M : List Byte) : rsArray (M ++ (rsArray []).toList.drop M.length) = rsArray M := by
  refine Vector.ext fun k hk => ?_
  refine (rsArray_getElem _ ⟨k, hk⟩).trans (Eq.trans ?_ (rsArray_getElem M ⟨k, hk⟩).symm)
  dsimp only
  rcases Nat.lt_or_ge k M.length with h | h
  · exact getD_append_of_lt h
  · rw [getD_append_of_le h, getD_of_le h, rsArray_nil, Vector.toList_replicate, List.drop_replicate, getD_of_lt (by simp; omega),
      List.getElem_replicate]

theorem Script.forney (h : Script s w) (hn : blockLength nWord = .ok n) (ha : cwbufRange off n = .ok a) {omega : Poly}
    (hL : L.length ≤ 255) (hnodup : L.Nodup) (h0 : 0#8 ∉ L) (hpr : w.getPR 2 = omega)
    (hcnt : w.errCnt = BitVec.ofNat 8 L.length) (hloc : w.errLoc = rsArray L) (hmag : w.errMag = rsArray []) (b0 b1 b2 : Word) :
    SameEnd (s.settled (rsForneyed s n a omega L)) ((w.stage (.rsForney 2) b0 b1 b2).stage .rsApply off nWord twoS) := by
  have hlocs : w.locations = L := by rw [State.locations, hcnt, ofNat_length_toNat hL, hloc, rsArray_take hL]
  have hstage : w.stage (.rsForney 2) b0 b1 b2 = (w.withArgs b0 b1 b2).settled (Machine.forney omega L >>= fun M =>
      .ok ({ w.withArgs b0 b1 b2 with errMag := rsArray (M ++ w.errMag.toList.drop M.length) }.setRes0 w.errCnt.toNat)) := by
    subst hpr hlocs
    exact State.stage_of_settle h.err rfl
  rw [hstage, rsForneyed]
  cases hM : Machine.forney omega L with
  | error e =>
    rw [State.stage_of_err rfl]
    exact h.sameEnd_raise e ..
  | ok M =>
    refine Script.apply ?_ hn ha hL (forney_length hnodup h0 hM) hcnt hloc ?_
    · exact ⟨rfl, h.mem, h.epoch⟩
    change rsArray (M ++ w.errMag.toList.drop M.length) = _
    rw [hmag, rsArray_append_drop_nil]

theorem Script.chien (h : Script s w) (hn : blockLength nWord = .ok n) (ha : cwbufRange off n = .ok a) {sigma omega : Poly}
    (hsigma : w.getPR 1 = sigma) (homega : w.getPR 2 = omega) (b0 b1 b2 : Word) :
    SameEnd (s.settled (rsChiened s n a sigma omega))
      (((w.stage (.rsChien 1) b0 b1 b2).stage (.rsForney 2) b0 b1 b2).stage .rsApply off nWord twoS) := by
  have hstage : w.stage (.rsChien 1) b0 b1 b2 = (w.withArgs b0 b1 b2).settled (Machine.chien sigma >>= fun L =>
      .ok ({ w.withArgs b0 b1 b2 with
        errCnt := BitVec.ofNat 8 L.length, errLoc := rsArray L, errMag := rsArray [] }.setRes0 L.length)) := by
    subst hsigma
    exact State.stage_of_settle h.err rfl
  rw [hstage, rsChiened]
  cases hL : Machine.chien sigma with
  | error e =>
    rw [State.stage_of_err (s := State.settled _ (Except.error e >>= _)) rfl, State.stage_of_err rfl]
    exact h.sameEnd_raise e ..
  | ok L =>
    obtain ⟨hnodup, h0, hlen⟩ := chien_locations hL
    refine Script.forney ?_ hn ha hlen hnodup h0 ?_ ?_ ?_ ?_ ..
    · exact ⟨rfl, h.mem, h.epoch⟩
    · exact homega
    · rfl
    · rfl
    · rfl

theorem Script.euclid (h : Script s w) (hn : blockLength nWord = .ok n) (ha : cwbufRange off n = .ok a) {S : Poly}
    (hS : w.getPR 0 = S) (htwoS : twoS.toNat ≤ 511) :
    SameEnd (s.settled (rsEuclided s n a twoS.toNat S))
      ((((w.stage (.rsEuclid 1 2 0) twoS nWord twoS).stage (.rsChien 1) twoS nWord twoS).stage
        (.rsForney 2) twoS nWord twoS).stage .rsApply off nWord twoS) := by
  have hstage : w.stage (.rsEuclid 1 2 0) twoS nWord twoS = (w.withArgs twoS nWord twoS).settled
      (Machine.euclid Config.euclidStop S twoS.toNat >>= fun p =>
        .ok (((w.withArgs twoS nWord twoS).setPR 1 p.1).setPR 2 p.2)) := by
    subst hS
    refine State.stage_of_settle h.err ?_
    change State.settle _ (atMost 511 twoS >>= _) = _
    rw [atMost_of_le htwoS]
    rfl
  rw [hstage, rsEuclided]
  cases Machine.euclid Config.euclidStop S twoS.toNat with
  | error e =>
    rw [State.stage_of_err (i := .rsChien 1) rfl, State.stage_of_err (i := .rsForney 2) rfl, State.stage_of_err rfl]
    exact h.sameEnd_raise e ..
  | ok p =>
    refine Script.chien ?_ hn ha ?_ ?_ ..
    · exact ⟨rfl, h.mem, h.epoch⟩
    · exact (State.getPR_setPR_ne _ _ (by decide)).trans (State.getPR_setPR ..)
    · exact State.getPR_setPR ..

end

theorem State.rsStages_of_stop {s s1 : State} {off n twoS : Word} (h : s.stage (.rsSynd 0) off n twoS = s1)
    (hstop : s1.err = false ∧ s1.res0 ≠ 0#32) : s.rsStages off n twoS = s1 := by
  subst h
  exact if_pos hstop

theorem State.rsStages_of_go {s s1 : State} {off n twoS : Word} (h : s.stage (.rsSynd 0) off n twoS = s1)
    (hgo : ¬ (s1.err = false ∧ s1.res0 ≠ 0#32)) : s.rsStages off n twoS =
      (((s1.stage (.rsEuclid 1 2 0) twoS n twoS).stage (.rsChien 1) twoS n twoS).stage (.rsForney 2) twoS n twoS).stage
        .rsApply off n twoS := by
  subst h
  exact if_neg hgo

/-- Settles O42: the script ends where RS.DECODE ends, stage by stage. -/
theorem rsDecodeAgreesWithTheStages : Obligations.RsDecodeAgreesWithTheStages := by
  intro s herr
  have hsynd : s.stage (.rsSynd 0) s.curArg0 s.curArg1 s.curArg2 = s.settled (rsOperands s >>= rsSynded s 0) :=
    State.stage_of_settle (a0 := s.curArg0) (a1 := s.curArg1) (a2 := s.curArg2) herr (execRsSynd_eq s 0)
  refine ⟨_, (execRsDecode_eq s).trans (s.settle_eq _), ?_⟩
  change SameEnd _ (s.rsStages s.curArg0 s.curArg1 s.curArg2)
  cases hop : rsOperands s with
  | error e =>
    rw [hop] at hsynd
    rw [State.rsStages_of_go hsynd (by rintro ⟨h, -⟩; cases h), State.stage_of_err (i := .rsEuclid 1 2 0) rfl,
      State.stage_of_err (i := .rsChien 1) rfl, State.stage_of_err (i := .rsForney 2) rfl, State.stage_of_err rfl]
    exact Script.sameEnd_raise ⟨herr, rfl, rfl⟩ e s.curArg0 s.curArg1 s.curArg2
  | ok p =>
    obtain ⟨n, twoS, a⟩ := p
    obtain ⟨hn, ha, rfl, hle⟩ := rsOperands_eq_ok hop
    rw [hop] at hsynd
    change SameEnd (s.settled (rsDecoded s _)) _
    change _ = s.settled (rsSynded s 0 _) at hsynd
    unfold rsDecoded
    split
    · rename_i hflag
      rw [rsSynded, hflag] at hsynd
      rw [State.rsStages_of_stop hsynd ⟨rfl, show 1#32 ≠ 0#32 by decide⟩]
      exact ⟨rfl, rfl, rfl, fun _ => rfl, fun _ h => absurd h (show 1#32 ≠ 0#32 by decide)⟩
    · rename_i hflag
      rw [rsSynded, eq_false_of_ne_true hflag] at hsynd
      rw [State.rsStages_of_go hsynd fun h => h.2 rfl]
      refine Script.euclid ?_ hn ha ?_ hle
      · exact ⟨rfl, rfl, rfl⟩
      · exact State.getPR_setPR s 0 _

end Sys2Proof.Machine
end
